-- ==== Sys2Proof/Word.lean ====
section
/-! DEFINITION. The widths of the values the engine handles (spec/00_scope.md R3, R5, R8): every value is an
unsigned integer of a stated width, so each is a bit vector of exactly that width; the tag's width alone is a parameter. -/

namespace Sys2Proof

/-- A Data Word and the value wires of the transport port: 32 bits (R5, R60). -/
abbrev Word := BitVec 32

/-- A width tag: a natural number, the declared bit width of a value (R60, R110). The engine only compares it. The
tag wires carry the tags below 2^TAG_W, with TAG_W a parameter (R4; log 19). -/
abbrev Tag := Nat

/-- A Task Identifier: 12 bits (R5, R62). -/
abbrev Task := BitVec 12

/-- A quantity register or an index: 7 bits (R5). -/
abbrev Count := BitVec 7

/-- An acknowledgment value: 13 bits (R63). -/
abbrev AckValue := BitVec 13

/-- A checksum: 16 bits (R5, R67). -/
abbrev Crc := BitVec 16

/-- A byte of a Data Word, as the Checksum Engine takes it apart (R91). -/
abbrev Byte := BitVec 8

/-- The 38-bit frame word FW = (tag, value) of R60: tag in bits 37:32, value in bits 31:0. -/
abbrev FrameWord := BitVec 38

/-- A CMD code: 2 bits (R72). -/
abbrev CmdCode := BitVec 2

end Sys2Proof
end

