-- ==== Sys2Proof/Config.lean ====
section
/-! DEFINITION. What does not change while the engine runs: the constants of spec/00_scope.md R3, the parameters of
R4, and the free values, which have no body and of which nothing can be proved. -/

namespace Sys2Proof

/-- TERM_VALUE, the Terminator sentinel (R3). -/
def Config.termValue : BitVec 15 := 0xE2D#15

/-- BAD_TASK, the echo of a negative acknowledgment when no task is known (R3). -/
def Config.badTask : Task := 0xBAD#12

/-- MAX_ATTEMPTS, the transmissions of one step's frame before the Sender gives up (R3, conflict C3). -/
def Config.maxAttempts : Nat := 5

/-- MAX_QTY, the largest legal Quantity (R3). -/
def Config.maxQty : Nat := 64

/-- The number of words of MSGBUF (R29, R40). -/
def Config.msgbufWords : Nat := 64

/-- CRC_PARAMS, the record of R4 and R92. -/
structure CrcParams where
  /-- The generator polynomial, the x^16 term implied. -/
  poly : BitVec 16
  /-- The initial value of the running CRC. -/
  init : BitVec 16
  /-- Whether each input byte is bit-reversed before it enters. -/
  refin : Bool
  /-- Whether the final running value is bit-reversed. -/
  refout : Bool
  /-- The final exclusive-or. -/
  xorout : BitVec 16
  deriving DecidableEq, Repr

/-- The default CRC_PARAMS of R93 (decision D8; DESIGN CHOICE of the spec, log 17). -/
def Config.crcDefault : CrcParams :=
  { poly := 0x1021#16, init := 0xFFFF#16, refin := false, refout := false, xorout := 0x0000#16 }

/-- The parameters of R4. A model takes them as configuration; nothing writes them. POLL_ITERS and POLL_ROUNDS are
at least 1 and TAG_W is at least 6, so each is held as the count less its bound (log 4). -/
structure Params where
  /-- CRC_PARAMS. -/
  crc : CrcParams
  /-- TAG_W less six. -/
  tagWLessSix : Nat
  /-- T_FRAME, the inter-frame delay in time units. -/
  tFrame : Nat
  /-- T_RETRY, the wait between two attempts of one Sender step, in time units. -/
  tRetry : Nat
  /-- POLL_ITERS less one. -/
  pollItersLessOne : Nat
  /-- POLL_ROUNDS less one. -/
  pollRoundsLessOne : Nat
  /-- POLL_PAUSE, the pause between two polls, in time units. -/
  pollPause : Nat
  /-- TIME_UNIT: how long one time unit is. No functional rule reads it. -/
  timeUnit : Nat
  deriving DecidableEq, Repr

/-- TAG_W: the width of the tag wires of the transport port (R4, R113). -/
def Params.tagW (p : Params) : Nat := p.tagWLessSix + 6

/-- Whether a tag can be presented on the tag wires (R113). -/
def Params.tagFits (p : Params) (w : Tag) : Bool := decide (w < 2 ^ p.tagW)

/-- POLL_ITERS: the polls of one outer round of RECV (R4, R115). -/
def Params.pollIters (p : Params) : Nat := p.pollItersLessOne + 1

/-- POLL_ROUNDS: the outer rounds of RECV (R4, R115). -/
def Params.pollRounds (p : Params) : Nat := p.pollRoundsLessOne + 1

/-- POLL_ITERS less one is OPEN (R4, D16): a free value. -/
opaque Config.pollItersLessOne : Nat

/-- POLL_ROUNDS less one is OPEN (R4, D16): a free value. -/
opaque Config.pollRoundsLessOne : Nat

/-- POLL_PAUSE is OPEN (R4, D16): a free value. -/
opaque Config.pollPause : Nat

/-- TIME_UNIT is OPEN (R4, D27): a free value. -/
opaque Config.timeUnit : Nat

/-- The parameters the machine starts with: the defaults R4 decides, the OPEN ones free. -/
def Config.params : Params :=
  { crc := Config.crcDefault, tagWLessSix := 0, tFrame := 50, tRetry := 50,
    pollItersLessOne := Config.pollItersLessOne, pollRoundsLessOne := Config.pollRoundsLessOne,
    pollPause := Config.pollPause, timeUnit := Config.timeUnit }

/-- What word `i` of MSGBUF holds after reset number `r` while nothing has written it since: unspecified (R32, U11),
so a free value of the reset and the index. That it is no value of the engine too is DESIGN CHOICE (log 5). -/
opaque Config.msgbufAtReset (r i : Nat) : Word

/-- Whether the adapter answers the `n`-th poll beyond the listed answers with a frame: an unconstrained input
(R48), so a free value of the counter. That it is no value of the engine too is DESIGN CHOICE (log 3). -/
opaque Config.pollAnswered (n : Nat) : Bool

/-- The value of such a frame, free (R48, log 3). -/
opaque Config.pollValue (n : Nat) : Word

/-- The tag of such a frame, free but for the width of the tag wires, which the port sees to (R48, log 3). -/
opaque Config.pollTag (n : Nat) : Tag

end Sys2Proof
end

