-- ==== Sys2Proof/Syntax.lean ====
section
/-! DEFINITION. The syntax: the frame, the kinds, the enumerations that make up the sequencer position, the failure
causes, and `Instr`, one constructor per row of spec/opcode_table.json. -/

namespace Sys2Proof

/-- The six frame kinds (spec/40_frame_codec.md section 1). -/
inductive Kind where
  | task
  | ack
  | quantity
  | terminator
  | checksum
  | data
  deriving DecidableEq, Repr

/-- A frame is a pair (value, tag) (spec/30_encoding.md R60). -/
structure Frame where
  /-- The value wires. -/
  value : Word
  /-- The tag wires: the only discriminator of the frame's kind. -/
  tag : Tag
  deriving DecidableEq, Repr

/-- Whether an answer is one the attached adapter can give: none, or a frame whose tag fits the tag wires
(spec/43_transport_primitives.md R113). -/
def Params.answerFits (p : Params) (r : Option Frame) : Bool :=
  match r with
  | none => true
  | some f => p.tagFits f.tag

/-- ROLE (spec/10_state.md R15). -/
inductive Role where
  | idle
  | sender
  | receiver
  deriving DecidableEq, Repr

/-- PHASE (spec/10_state.md R16). -/
inductive Phase where
  | pTask
  | pQty
  | pData
  | pTerm
  | pDone
  | pFail
  deriving DecidableEq, Repr

/-- USTEP (spec/10_state.md R17). -/
inductive UStep where
  | uTx
  | uTxc
  | uRx
  | uRxc
  | uTxa
  deriving DecidableEq, Repr

/-- The number 10_state.md R15 gives a role. -/
def Role.code : Role → BitVec 2
  | .idle => 0
  | .sender => 1
  | .receiver => 2

/-- The number 10_state.md R16 gives a phase. -/
def Phase.code : Phase → BitVec 3
  | .pTask => 0
  | .pQty => 1
  | .pData => 2
  | .pTerm => 3
  | .pDone => 4
  | .pFail => 5

/-- The number 10_state.md R17 gives a micro-step. -/
def UStep.code : UStep → BitVec 3
  | .uTx => 0
  | .uTxc => 1
  | .uRx => 2
  | .uRxc => 3
  | .uTxa => 4

/-- The failure causes of spec/60_exceptions.md R176, in its order. Ghost: no register holds them (R177). -/
inductive Cause where
  | ackMiss
  | ackWrongKind
  | ackMismatch
  | retryExhausted
  | operandRange
  | miss
  | violation
  | wrongKind
  | qtyOverflow
  | csumMismatch
  | badTerminator
  deriving DecidableEq, Repr

/-- The ghost number of a cause (R176). -/
def Cause.number : Cause → Nat
  | .ackMiss => 1
  | .ackWrongKind => 2
  | .ackMismatch => 3
  | .retryExhausted => 4
  | .operandRange => 5
  | .miss => 6
  | .violation => 7
  | .wrongKind => 8
  | .qtyOverflow => 9
  | .csumMismatch => 10
  | .badTerminator => 11

/-- One constructor per row of spec/opcode_table.json, in the table's order. A frame's unused bits (R69: ignored
when the engine receives) are no operand. -/
inductive Instr where
  /-- TASK: Task frame, tag 12 (R62). -/
  | task (task : Task)
  /-- ACK: Acknowledgment frame with status 1, tag 13 (R63). -/
  | ack (echo : Task)
  /-- NACK: Acknowledgment frame with status 0, tag 13 (R63). -/
  | nack (echo : Task)
  /-- QTY: Quantity frame, tag 14 (R64). -/
  | qty (quantity : BitVec 14)
  /-- TERM: Terminator frame with the sentinel 0xE2D, tag 15 (R65). -/
  | term
  /-- CSUM: Checksum frame, tag 16 (R67). -/
  | csum (crc : Crc)
  /-- DATA: Data frame, tag 32 (R66). -/
  | data (word : Word)
  /-- NOP: CMD code 0 (R72). -/
  | nop
  /-- SEND: CMD code 1 (R72, R126). -/
  | send
  /-- RECEIVE: CMD code 2 (R72, R151). -/
  | receive
  /-- RESERVED3: CMD code 3 (R72). -/
  | reserved3
  /-- kindToTag(k) (R80). -/
  | kindToTag (k : Kind)
  /-- tagToKind(tag) (R81). -/
  | tagToKind (tag : Tag)
  /-- payloadValid(k, v, ctx) with the context's T and CRC (R83). -/
  | payloadValid (k : Kind) (v : Word) (ctxT : Task) (ctxCrc : Crc)
  /-- expected(ROLE, PHASE, USTEP) (R84). -/
  | expected (r : Role) (p : Phase) (u : UStep)
  /-- accept(frame or none, k, ctx) with the context's T and CRC (R85). -/
  | accept (f : Option Frame) (k : Kind) (ctxT : Task) (ctxCrc : Crc)
  /-- checksum(word) (R90). -/
  | checksum (word : Word)
  /-- crc_update(c, b) (R92). -/
  | crcUpdate (c : Crc) (b : Byte)
  /-- encodeAck(taskValue, success) (R100). -/
  | encodeAck (taskValue : Task) (success : Bool)
  /-- decodeStatus(ackValue) (R101). -/
  | decodeStatus (ackValue : AckValue)
  /-- validateAck(ackValue, expectedTask) (R102). -/
  | validateAck (ackValue : AckValue) (expectedTask : Task)
  /-- transmit(value, widthTag) (R110). -/
  | transmit (value : Word) (widthTag : Tag)
  /-- beginListening() (R111). -/
  | beginListening
  /-- pollOnce() (R112). -/
  | pollOnce
  /-- XMIT(v, w) (R114). -/
  | xmit (v : Word) (w : Tag)
  /-- RECV() (R115). -/
  | recv
  /-- receiveAck(expectedTask) (R117). -/
  | receiveAck (expectedTask : Task)
  deriving DecidableEq, Repr

/-- The format column of the opcode table. -/
inductive Format where
  | frame
  | command
  | internal
  deriving DecidableEq, Repr

/-- Which of the table's three formats an instruction has (R76). -/
def Instr.format : Instr → Format
  | .task _ => .frame
  | .ack _ => .frame
  | .nack _ => .frame
  | .qty _ => .frame
  | .term => .frame
  | .csum _ => .frame
  | .data _ => .frame
  | .nop => .command
  | .send => .command
  | .receive => .command
  | .reserved3 => .command
  | .kindToTag _ => .internal
  | .tagToKind _ => .internal
  | .payloadValid _ _ _ _ => .internal
  | .expected _ _ _ => .internal
  | .accept _ _ _ _ => .internal
  | .checksum _ => .internal
  | .crcUpdate _ _ => .internal
  | .encodeAck _ _ => .internal
  | .decodeStatus _ => .internal
  | .validateAck _ _ => .internal
  | .transmit _ _ => .internal
  | .beginListening => .internal
  | .pollOnce => .internal
  | .xmit _ _ => .internal
  | .recv => .internal
  | .receiveAck _ => .internal

end Sys2Proof
end

