-- ==== Sys2Proof/WellFormed.lean ====
section
/-! DEFINITION. Well-formed instructions. The operands' widths are in their types; what is left is the contract of
`transmit` (spec/43_transport_primitives.md R110) and the domain of `expected` (spec/40_frame_codec.md R84). -/

namespace Sys2Proof

/-- `transmit` and `XMIT` are called with a tag of the width-tag table and a value below 2^tag (R69, R110). -/
def transmitArgsOk (v : Word) (w : Tag) : Bool :=
  (w == 12 || w == 13 || w == 14 || w == 15 || w == 16 || w == 32) && decide (v.toNat < 2 ^ w)

/-- A row of the table of R84: the positions at which the engine awaits a frame. -/
def waitingPosition : Role → Phase → UStep → Bool
  | .sender, .pTask, .uRx => true
  | .sender, .pQty, .uRx => true
  | .sender, .pData, .uRx => true
  | .sender, .pTerm, .uRx => true
  | .receiver, .pTask, .uRx => true
  | .receiver, .pQty, .uRx => true
  | .receiver, .pData, .uRx => true
  | .receiver, .pData, .uRxc => true
  | .receiver, .pTerm, .uRx => true
  | _, _, _ => false

/-- Well-formedness of an instruction, a check per constructor. -/
def Instr.wf : Instr → Bool
  | .task _ => true
  | .ack _ => true
  | .nack _ => true
  | .qty _ => true
  | .term => true
  | .csum _ => true
  | .data _ => true
  | .nop => true
  | .send => true
  | .receive => true
  | .reserved3 => true
  | .kindToTag _ => true
  | .tagToKind _ => true
  | .payloadValid _ _ _ _ => true
  | .expected r p u => waitingPosition r p u
  | .accept _ _ _ _ => true
  | .checksum _ => true
  | .crcUpdate _ _ => true
  | .encodeAck _ _ => true
  | .decodeStatus _ => true
  | .validateAck _ _ => true
  | .transmit v w => transmitArgsOk v w
  | .beginListening => true
  | .pollOnce => true
  | .xmit v w => transmitArgsOk v w
  | .recv => true
  | .receiveAck _ => true

end Sys2Proof
end

