-- ==== Sys2Proof/Decode.lean ====
section
/-! DEFINITION. Decoding and encoding (spec/30_encoding.md R60 to R76). A code word is a 38-bit frame word or a 2-bit
CMD code; the internal operations have no encoding (R76). Decoding is total and rejects by name. -/

namespace Sys2Proof

/-- What carries an instruction: a frame on the channel or a code written to CMD. -/
inductive CodeWord where
  /-- A frame word {tag, value} (R60). -/
  | frame (fw : FrameWord)
  /-- A CMD code (R72). -/
  | command (c : CmdCode)
  deriving DecidableEq, Repr

/-- Why a frame word is no row of the table (R70, R71). -/
inductive DecodeError where
  /-- Every tag other than 12, 13, 14, 15, 16, 32 (R70). -/
  | unrecognisedTag (tag : Tag)
  /-- Tag 15 with a sentinel other than 0xE2D (R71). -/
  | invalidTerminator (sentinel : BitVec 15)
  deriving DecidableEq, Repr

/-- The tag field FW[37:32] (R60). -/
def frameWordTag (fw : FrameWord) : Tag := (fw.extractLsb' 32 6).toNat

/-- The value field FW[31:0] (R60). -/
def frameWordValue (fw : FrameWord) : Word := fw.extractLsb' 0 32

/-- FW = {tag[5:0], value[31:0]} (R60): the notation for frames with tags below 64. -/
def Frame.word (f : Frame) : FrameWord := (BitVec.ofNat 6 f.tag).setWidth 38 <<< 32 ||| f.value.setWidth 38

/-- The frame a frame word stands for (R60). -/
def frameOfWord (fw : FrameWord) : Frame := { value := frameWordValue fw, tag := frameWordTag fw }

/-- The instruction a frame encodes: the tag tells the kind (R61), the payload is the field of R62 to R67, and the
bits above it are not examined (R69). A tag of 64 or more, which a TAG_W above 6 lets through, is no row (R70). -/
def decodePair (f : Frame) : Except DecodeError Instr :=
  let tag := f.tag
  let v := f.value
  if tag = 12 then .ok (.task (v.extractLsb' 0 12))
  else if tag = 13 then
    if v.getLsbD 12 then .ok (.ack (v.extractLsb' 0 12)) else .ok (.nack (v.extractLsb' 0 12))
  else if tag = 14 then .ok (.qty (v.extractLsb' 0 14))
  else if tag = 15 then
    if v.extractLsb' 0 15 = Config.termValue then .ok .term
    else .error (.invalidTerminator (v.extractLsb' 0 15))
  else if tag = 16 then .ok (.csum (v.extractLsb' 0 16))
  else if tag = 32 then .ok (.data v)
  else .error (.unrecognisedTag tag)

/-- The instruction a frame word encodes (R60). -/
def decodeFrame (fw : FrameWord) : Except DecodeError Instr := decodePair (frameOfWord fw)

/-- The instruction a CMD code stands for (R72): every code has one. -/
def decodeCommand (c : CmdCode) : Instr :=
  if c = 0 then .nop else if c = 1 then .send else if c = 2 then .receive else .reserved3

/-- The decoder. -/
def decode : CodeWord → Except DecodeError Instr
  | .frame fw => decodeFrame fw
  | .command c => .ok (decodeCommand c)

/-- A frame word with a given tag and the value bits above the payload 0 (R69). -/
def frameWordOf (tag : Tag) (v : Word) : FrameWord := Frame.word { value := v, tag := tag }

/-- The encoder, from the formats of R61 to R67 and the codes of R72; `none` for the operations R76 gives no
encoding. -/
def encode : Instr → Option CodeWord
  | .task t => some (.frame (frameWordOf 12 (t.setWidth 32)))
  | .ack e => some (.frame (frameWordOf 13 (0x1000#32 ||| e.setWidth 32)))
  | .nack e => some (.frame (frameWordOf 13 (e.setWidth 32)))
  | .qty q => some (.frame (frameWordOf 14 (q.setWidth 32)))
  | .term => some (.frame (frameWordOf 15 (Config.termValue.setWidth 32)))
  | .csum c => some (.frame (frameWordOf 16 (c.setWidth 32)))
  | .data w => some (.frame (frameWordOf 32 w))
  | .nop => some (.command 0)
  | .send => some (.command 1)
  | .receive => some (.command 2)
  | .reserved3 => some (.command 3)
  | .kindToTag _ => none
  | .tagToKind _ => none
  | .payloadValid _ _ _ _ => none
  | .expected _ _ _ => none
  | .accept _ _ _ _ => none
  | .checksum _ => none
  | .crcUpdate _ _ => none
  | .encodeAck _ _ => none
  | .decodeStatus _ => none
  | .validateAck _ _ => none
  | .transmit _ _ => none
  | .beginListening => none
  | .pollOnce => none
  | .xmit _ _ => none
  | .recv => none
  | .receiveAck _ => none

/-- One row of the opcode map of R76. -/
structure OpcodeRow where
  /-- The row's mnemonic. -/
  mnemonic : String
  /-- The bits a frame word of the row has under the mask. -/
  matchBits : FrameWord
  /-- The bits the row fixes. -/
  maskBits : FrameWord
  deriving DecidableEq, Repr

/-- The opcode map of R76, transcribed. -/
def opcodeRows : List OpcodeRow :=
  [ { mnemonic := "TASK", matchBits := 0x0C00000000#38, maskBits := 0x3F00000000#38 },
    { mnemonic := "ACK", matchBits := 0x0D00001000#38, maskBits := 0x3F00001000#38 },
    { mnemonic := "NACK", matchBits := 0x0D00000000#38, maskBits := 0x3F00001000#38 },
    { mnemonic := "QTY", matchBits := 0x0E00000000#38, maskBits := 0x3F00000000#38 },
    { mnemonic := "TERM", matchBits := 0x0F00000E2D#38, maskBits := 0x3F00007FFF#38 },
    { mnemonic := "CSUM", matchBits := 0x1000000000#38, maskBits := 0x3F00000000#38 },
    { mnemonic := "DATA", matchBits := 0x2000000000#38, maskBits := 0x3F00000000#38 } ]

/-- FW is of a row's kind exactly when FW & mask = match (R76). -/
def OpcodeRow.hits (r : OpcodeRow) (fw : FrameWord) : Bool := fw &&& r.maskBits == r.matchBits

/-- The mnemonic spec/opcode_table.json gives an instruction. -/
def Instr.mnemonic : Instr → String
  | .task _ => "TASK"
  | .ack _ => "ACK"
  | .nack _ => "NACK"
  | .qty _ => "QTY"
  | .term => "TERM"
  | .csum _ => "CSUM"
  | .data _ => "DATA"
  | .nop => "NOP"
  | .send => "SEND"
  | .receive => "RECEIVE"
  | .reserved3 => "RESERVED3"
  | .kindToTag _ => "kindToTag"
  | .tagToKind _ => "tagToKind"
  | .payloadValid _ _ _ _ => "payloadValid"
  | .expected _ _ _ => "expected"
  | .accept _ _ _ _ => "accept"
  | .checksum _ => "checksum"
  | .crcUpdate _ _ => "crc_update"
  | .encodeAck _ _ => "encodeAck"
  | .decodeStatus _ => "decodeStatus"
  | .validateAck _ _ => "validateAck"
  | .transmit _ _ => "transmit"
  | .beginListening => "beginListening"
  | .pollOnce => "pollOnce"
  | .xmit _ _ => "XMIT"
  | .recv => "RECV"
  | .receiveAck _ => "receiveAck"

/-- The pseudo-form `ACK t` of R75: the Acknowledgment frame of value 0x1000 + t. -/
def ackFrame (t : Task) : Frame := { value := 0x1000#32 + t.setWidth 32, tag := 13 }

/-- The pseudo-form `NACK t` of R75: the Acknowledgment frame of value t. -/
def nackFrame (t : Task) : Frame := { value := t.setWidth 32, tag := 13 }

/-- The pseudo-form `BADNACK` of R75: `NACK 0xBAD`. -/
def badNackFrame : Frame := nackFrame Config.badTask

/-- The code word that bits `w` of a row of `nbits` bits stand for, bit 0 the least significant: a CMD code has 2
bits (one byte), a frame word 38 (five bytes); bits beyond those are no part of the instruction (log 22). -/
def codeWordOfBits (nbits w : Nat) : Option CodeWord :=
  if nbits = 0 then none
  else if nbits ≤ 8 then (if w < 4 then some (.command (BitVec.ofNat 2 w)) else none)
  else if w < 2 ^ 38 then some (.frame (BitVec.ofNat 38 w)) else none

/-- The instruction the decoder reads from an instruction whose bits are `w`. -/
def decodeTableWord (nbits w : Nat) : Option Instr :=
  match codeWordOfBits nbits w with
  | none => none
  | some cw =>
    match decode cw with
    | .ok i => some i
    | .error _ => none

end Sys2Proof
end

