-- ==== Sys2Proof/Machine/State.lean ====
section
/-! DEFINITION. The state of one engine (spec/10_state.md R10), plain data, and the state after reset (R32). Beside the
registers stand the two ghost values R35 lets a model carry, and the model's own fields: the inputs of the host and
of the Transport Adapter, the parameters, and the counters that make free values fresh. -/

namespace Sys2Proof.Machine

/-- The actions of spec/00_scope.md section 5.3, the events visible at the engine's two interfaces. -/
inductive Action where
  /-- `tx(v, w)`: transmit(value = v, widthTag = w). -/
  | tx (v : Word) (w : Tag)
  /-- `listen`: beginListening(). -/
  | listen
  /-- `poll -> none` or `poll -> (v, w)`: pollOnce() and its answer. -/
  | poll (answer : Option Frame)
  /-- `wait(n)`: n time units pass; no state changes. -/
  | wait (n : Nat)
  /-- `cmd(op)`: the host writes this code to CMD. -/
  | cmd (code : CmdCode)
  /-- `done(ok)`: STATUS.DONE rises with STATUS.OK = ok. -/
  | done (ok : Bool)
  deriving DecidableEq, Repr

/-- One access of the host to the engine, or its silence for one step of the engine (spec/10_state.md R11, R12;
spec/70_reset_and_hazards.md R200; log 2). -/
inductive HostEvent where
  /-- The host does nothing; the engine takes its next micro-step. -/
  | quiet
  /-- The host writes `v` to the register numbered `num`. -/
  | write (num : Nat) (v : Word)
  /-- The host reads the register numbered `num`. -/
  | read (num : Nat)
  /-- The reset input is asserted and released. -/
  | reset
  deriving DecidableEq, Repr

/-- The output of an internal operation of the opcode table (log 9). -/
inductive OpResult where
  /-- No internal operation has run, or the last one returns nothing. -/
  | none
  /-- A width tag. -/
  | tag (w : Tag)
  /-- A Kind, or Unknown (for tagToKind) or no awaited kind (for expected) as `none`. -/
  | kind (k : Option Kind)
  /-- A truth value. -/
  | truth (b : Bool)
  /-- The judgement of `accept`. -/
  | judgement (ok : Bool) (cause : Option Cause)
  /-- A 16-bit value. -/
  | crc (c : Crc)
  /-- An acknowledgment value. -/
  | ack (a : AckValue)
  /-- A received frame, or none. -/
  | frame (f : Option Frame)
  deriving DecidableEq, Repr

/-- MSGBUF as the words written since reset: (index, word) pairs, indices strictly rising and below 64. An unlisted
index holds the unspecified word of reset. The engine never addresses a byte (R43, R46), so the unit is the word
(log 5). -/
abbrev Memory := List (Nat × Word)

/-- Why the machine stops with a fault. -/
inductive Fault where
  /-- Raised by a micro-step at a sequencer position that R33 says no reachable state has. Safe: the spec gives such a
  position no step, and a run from reset never meets it (log 13). -/
  | illegalPosition
  /-- Raised by an engine access to MSGBUF at an index of 64 or more, which does not exist (R40) and which R43 says
  cannot occur. Safe: a run from reset never meets it (log 14). -/
  | msgbufIndex
  deriving DecidableEq, Repr

/-- Why the machine refuses a step. -/
inductive Refusal where
  /-- Raised by an arm of exec whose instruction has no meaning yet. Safe: no next state is claimed. -/
  | notModelled (mnemonic : String)
  /-- Raised by a host write to MSGBUF while a RECEIVE is in progress, to which R34 and U6 give no meaning. Safe: no
  next state is claimed (log 7). -/
  | msgbufWriteDuringReceive
  deriving DecidableEq, Repr

/-- The state of one engine. -/
structure State where
  /-- STATUS.BUSY (R13). -/
  statusBusy : Bool
  /-- STATUS.DONE (R13). -/
  statusDone : Bool
  /-- STATUS.OK (R13). -/
  statusOk : Bool
  /-- OP_TASK (R27). -/
  opTask : Task
  /-- OP_QTY (R27). -/
  opQty : Count
  /-- RES_TASK (R28). -/
  resTask : Task
  /-- RES_QTY (R28). -/
  resQty : Count
  /-- MSGBUF (R29). -/
  msgbuf : Memory
  /-- ROLE (R15). -/
  role : Role
  /-- PHASE (R16). -/
  phase : Phase
  /-- IDX (R18). -/
  idx : Count
  /-- USTEP (R17). -/
  ustep : UStep
  /-- ATT (R19). -/
  att : BitVec 3
  /-- T (R20). -/
  t : Task
  /-- Q (R21). -/
  q : Count
  /-- DW (R22). -/
  dw : Word
  /-- CRC (R23). -/
  crc : Crc
  /-- RXV (R24). -/
  rxv : Bool
  /-- RXTAG (R24): TAG_W bits, so below 2^TAG_W in every state of the invariant. -/
  rxtag : Tag
  /-- RXVAL (R24). -/
  rxval : Word
  /-- ACKOK (R25). -/
  ackok : Bool
  /-- PR, the outer-round counter of RECV (R26). -/
  pr : Nat
  /-- PI, the inner-iteration counter of RECV (R26). -/
  pi : Nat
  /-- CAUSE, ghost (R35). -/
  cause : Option Cause
  /-- TRACE, ghost: the actions taken so far, oldest first (R35). -/
  trace : List Action
  /-- The model's own: the adapter's answers to the coming polls (R48, log 3). -/
  answers : List (Option Frame)
  /-- The model's own: the polls answered by the free value so far (log 3). -/
  polls : Nat
  /-- The model's own: the host's coming accesses (R6, log 2). -/
  host : List HostEvent
  /-- The model's own: the host port's answer to the last read (log 26). -/
  hostRd : Word
  /-- The model's own: the output of the internal operation executed last (log 9). -/
  out : OpResult
  /-- The model's own: the parameters of R4, which nothing writes (log 4). -/
  params : Params
  /-- The model's own: the resets so far (log 5). -/
  resets : Nat
  deriving DecidableEq, Repr

/-- The state after reset (R32, R200). -/
def State.reset : State :=
  { statusBusy := false, statusDone := false, statusOk := false
    opTask := 0, opQty := 0, resTask := 0, resQty := 0
    msgbuf := []
    role := .idle, phase := .pTask, idx := 0, ustep := .uTx, att := 0
    t := 0, q := 0, dw := 0, crc := 0
    rxv := false, rxtag := 0, rxval := 0, ackok := false, pr := 0, pi := 0
    cause := none, trace := []
    answers := [], polls := 0, host := [], hostRd := 0, out := .none
    params := Config.params, resets := 0 }

end Sys2Proof.Machine
end

