-- ==== Sys2Proof/Machine/Checksum.lean ====
section
/-! DEFINITION. The Checksum Engine (spec/41_checksum.md): the running update, the finish and the checksum of a Data
Word, for any CRC_PARAMS (R90 to R93). All are pure (R90, R86). -/

namespace Sys2Proof.Machine

/-- One of the eight shift steps of R92: the test of bit 15 is made before the shift. -/
def crcShift (poly c : Crc) : Crc :=
  if c.getLsbD 15 then (c <<< 1) ^^^ poly else c <<< 1

/-- `n` shift steps. -/
def crcShifts (poly : Crc) : Nat → Crc → Crc
  | 0, c => c
  | n + 1, c => crcShifts poly n (crcShift poly c)

/-- The byte as it enters: reversed if refin (R92). -/
def crcByteIn (p : CrcParams) (b : Byte) : Byte := if p.refin then b.reverse else b

/-- crc_update (R92): the byte enters at the top, then eight shift steps. -/
def crcUpdate (p : CrcParams) (c : Crc) (b : Byte) : Crc :=
  crcShifts p.poly 8 (c ^^^ ((crcByteIn p b).setWidth 16 <<< 8))

/-- finish (R92). -/
def crcFinish (p : CrcParams) (c : Crc) : Crc := (if p.refout then c.reverse else c) ^^^ p.xorout

/-- Byte `n` of a word counted from the most significant: 0 is w[31:24], 3 is w[7:0] (R91). -/
def wordByte (w : Word) (n : Nat) : Byte := w.extractLsb' (8 * (3 - n)) 8

/-- checksum (R90): the four bytes, most significant first (R91). -/
def checksum (p : CrcParams) (w : Word) : Crc :=
  crcFinish p
    (crcUpdate p (crcUpdate p (crcUpdate p (crcUpdate p p.init (wordByte w 0)) (wordByte w 1)) (wordByte w 2))
      (wordByte w 3))

/-- The pseudo-form `UNIT w` of spec/30_encoding.md R75: DATA w immediately followed by CSUM checksum(w). -/
def unitFrames (p : CrcParams) (w : Word) : List Frame :=
  [{ value := w, tag := 32 }, { value := (checksum p w).setWidth 32, tag := 16 }]

/-- One step of the bit-serial form of R94 with the polynomial 0x1021: shift in bit `b`. -/
def crcBitStep (c : Crc) (b : Bool) : Crc :=
  if c.getLsbD 15 != b then (c <<< 1) ^^^ 0x1021#16 else c <<< 1

/-- `n` steps of the bit-serial form, for bits n-1 down to 0 of the word (R94). -/
def crcSerial (w : Word) : Nat → Crc → Crc
  | 0, c => c
  | n + 1, c => crcSerial w n (crcBitStep c (w.getLsbD n))

end Sys2Proof.Machine
end

