-- ==== Sys2Proof/Machine/Operands.lean ====
section
/-! DEFINITION. The operand forms: the Frame Codec (spec/40_frame_codec.md R80, R81), the payload fields of received
frames and the assembly of transmitted values (spec/30_encoding.md R62 to R69, R74), and the acknowledgment helpers
(spec/42_ack_helpers.md R100 to R102). All are pure. -/

namespace Sys2Proof.Machine

/-- kindToTag (R80). -/
def kindToTag : Kind → Tag
  | .task => 12
  | .ack => 13
  | .quantity => 14
  | .terminator => 15
  | .checksum => 16
  | .data => 32

/-- tagToKind, the demultiplexer (R81); Unknown is `none`. -/
def tagToKind (w : Tag) : Option Kind :=
  if w = 12 then some .task
  else if w = 13 then some .ack
  else if w = 14 then some .quantity
  else if w = 15 then some .terminator
  else if w = 16 then some .checksum
  else if w = 32 then some .data
  else none

/-- The task field of a Task frame's value, bits 11:0 (R62). -/
def taskField (v : Word) : Task := v.extractLsb' 0 12

/-- The acknowledgment value of an Acknowledgment frame's value, bits 12:0 (R63). -/
def ackField (v : Word) : AckValue := v.extractLsb' 0 13

/-- The quantity field of a Quantity frame's value, bits 13:0 (R64). -/
def qtyField (v : Word) : BitVec 14 := v.extractLsb' 0 14

/-- The low seven bits of a Quantity frame's value, which Q takes (R156). -/
def qtyLow (v : Word) : Count := v.extractLsb' 0 7

/-- The sentinel field of a Terminator frame's value, bits 14:0 (R65). -/
def termField (v : Word) : BitVec 15 := v.extractLsb' 0 15

/-- The crc field of a Checksum frame's value, bits 15:0 (R67). -/
def csumField (v : Word) : Crc := v.extractLsb' 0 16

/-- The frame of a kind with a payload value: the tag is always kindToTag of the kind (R80). -/
def frameOf (k : Kind) (v : Word) : Frame := { value := v, tag := kindToTag k }

/-- encodeAck (R100): {s, t}, that is (s << 12) | t. -/
def encodeAck (taskValue : Task) (success : Bool) : AckValue :=
  (BitVec.ofBool success).setWidth 13 <<< 12 ||| taskValue.setWidth 13

/-- decodeStatus (R101): bit 12. -/
def decodeStatus (a : AckValue) : Bool := a.getLsbD 12

/-- validateAck (R102): status set and echo equal to the expected task. -/
def validateAck (a : AckValue) (expectedTask : Task) : Bool :=
  decodeStatus a && a.extractLsb' 0 12 == expectedTask

/-- The value a Sender transmits in P_TASK (R129): zext_32(T). -/
def taskValue (t : Task) : Word := t.setWidth 32

/-- The value a Sender transmits in P_QTY (R74, R130): zext_32(Q). -/
def qtyValue (q : Count) : Word := q.setWidth 32

/-- The value a Sender transmits in P_TERM (R74, R132): 0xE2D. -/
def termValue : Word := Config.termValue.setWidth 32

/-- The value a Sender transmits in U_TXC (R133): zext_32(CRC). -/
def csumValue (c : Crc) : Word := c.setWidth 32

/-- The value a Receiver transmits in U_TXA (R74, R166): zext_32(encodeAck(T, ACKOK)). -/
def ackValue (t : Task) (s : Bool) : Word := (encodeAck t s).setWidth 32

/-- Whether a quantity is at most MAX_QTY (R83, R127). -/
def qtyLegal {n : Nat} (q : BitVec n) : Bool := decide (q.toNat ≤ Config.maxQty)

/-- The kind of the frame an instruction of the frame format stands for, with its payload as the engine transmits
it: unused bits 0 (R69). -/
def taskFrame (t : Task) : Frame := frameOf .task (taskValue t)

/-- The Acknowledgment frame of echo `e` and status `s` (R63). -/
def ackFrameOf (e : Task) (s : Bool) : Frame := frameOf .ack (ackValue e s)

/-- The Quantity frame of a 14-bit quantity (R64). -/
def qtyFrame (q : BitVec 14) : Frame := frameOf .quantity (q.setWidth 32)

/-- The Terminator frame (R65). -/
def termFrame : Frame := frameOf .terminator termValue

/-- The Checksum frame of a crc (R67). -/
def csumFrame (c : Crc) : Frame := frameOf .checksum (csumValue c)

/-- The Data frame of a word (R66). -/
def dataFrame (w : Word) : Frame := frameOf .data w

end Sys2Proof.Machine
end

