-- ==== Sys2Proof/Machine/Flags.lean ====
section
/-! DEFINITION. The one-bit values that steer the engine (spec/10_state.md R37): the STATUS word as the host reads it
(R13), and the judgement that ACKOK and the Sender's retry decision are taken from (spec/40_frame_codec.md R83 to
R85). The engine has no arithmetic flags. -/

namespace Sys2Proof.Machine

/-- STATUS as a word: OK in bit 2, DONE in bit 1, BUSY in bit 0 (R13). -/
def State.statusWord (s : State) : BitVec 3 :=
  (BitVec.ofBool s.statusOk).setWidth 3 <<< 2 ||| (BitVec.ofBool s.statusDone).setWidth 3 <<< 1 |||
    (BitVec.ofBool s.statusBusy).setWidth 3

/-- payloadValid (R83): the per-kind check, with the context's T and CRC. -/
def payloadValid (k : Kind) (v : Word) (ctxT : Task) (ctxCrc : Crc) : Bool :=
  match k with
  | .task => true
  | .quantity => qtyLegal (qtyField v)
  | .data => true
  | .checksum => csumField v == ctxCrc
  | .terminator => termField v == Config.termValue
  | .ack => validateAck (ackField v) ctxT

/-- The kind awaited at a position (R84); `none` where the engine awaits nothing. -/
def expected (r : Role) (p : Phase) (u : UStep) : Option Kind :=
  match r, p, u with
  | .sender, .pTask, .uRx => some .ack
  | .sender, .pQty, .uRx => some .ack
  | .sender, .pData, .uRx => some .ack
  | .sender, .pTerm, .uRx => some .ack
  | .receiver, .pTask, .uRx => some .task
  | .receiver, .pQty, .uRx => some .quantity
  | .receiver, .pData, .uRx => some .data
  | .receiver, .pData, .uRxc => some .checksum
  | .receiver, .pTerm, .uRx => some .terminator
  | _, _, _ => none

/-- The kind the Sender's U_TX transmits (R84); `none` in P_DONE and P_FAIL. -/
def outgoing (p : Phase) : Option Kind :=
  match p with
  | .pTask => some .task
  | .pQty => some .quantity
  | .pData => some .data
  | .pTerm => some .terminator
  | .pDone => none
  | .pFail => none

/-- The cause of an invalid payload of each kind (R85). Task and Data payloads are never invalid (R83); the name
given to them here is unreachable. -/
def payloadCause (k : Kind) : Cause :=
  match k with
  | .quantity => .qtyOverflow
  | .checksum => .csumMismatch
  | .terminator => .badTerminator
  | .ack => .ackMismatch
  | .task => .wrongKind
  | .data => .wrongKind

/-- The name of "nothing received" for the role that awaits kind `k` (R85: ACK_MISS for the Sender). -/
def missCause (k : Kind) : Cause := if k = .ack then .ackMiss else .miss

/-- The name of "unrecognised tag" for the role that awaits kind `k` (R85: ACK_WRONG_KIND for the Sender). -/
def violationCause (k : Kind) : Cause := if k = .ack then .ackWrongKind else .violation

/-- The name of "a frame of another kind" for the role that awaits kind `k` (R85). -/
def wrongKindCause (k : Kind) : Cause := if k = .ack then .ackWrongKind else .wrongKind

/-- accept (R85): the judgement of what a RECV returned against the awaited kind, the checks in the order of R178. -/
def acceptFrame (r : Option Frame) (k : Kind) (ctxT : Task) (ctxCrc : Crc) : Bool × Option Cause :=
  match r with
  | none => (false, some (missCause k))
  | some f =>
    match tagToKind f.tag with
    | none => (false, some (violationCause k))
    | some k' =>
      if k' ≠ k then (false, some (wrongKindCause k))
      else if payloadValid k f.value ctxT ctxCrc then (true, none)
      else (false, some (payloadCause k))

end Sys2Proof.Machine
end

