-- ==== Sys2Proof/Machine/Ops.lean ====
section
/-! DEFINITION. The named operations over the state: MSGBUF, the transport primitives (spec/43_transport_primitives.md),
phase succession (spec/10_state.md R36), the step failure and the completion step (spec/60_exceptions.md R180 to R184:
what stands in place of taking an exception and of returning from one), the judgement of a waiting micro-step, and
the acceptance of the two commands. -/

namespace Sys2Proof.Machine

/-- The word listed at an index. -/
def memGet : Memory → Nat → Option Word
  | [], _ => none
  | (a, w) :: m, i => if a = i then some w else memGet m i

/-- Write a word at an index, keeping the indices strictly rising. -/
def memSet : Memory → Nat → Word → Memory
  | [], i, v => [(i, v)]
  | (a, w) :: m, i, v =>
    if i < a then (i, v) :: (a, w) :: m
    else if i = a then (i, v) :: m
    else (a, w) :: memSet m i v

/-- Whether every listed index is at least `lo` and below 64 and the indices strictly rise. -/
def memRises (lo : Nat) : Memory → Bool
  | [] => true
  | (a, _) :: m => decide (lo ≤ a) && decide (a < Config.msgbufWords) && memRises (a + 1) m

/-- The canonical form of MSGBUF: indices strictly rising and below 64. An unlisted index reads as the free value of
reset, which no listed word is known to equal. -/
def Memory.wf (m : Memory) : Bool := memRises 0 m

/-- What MSGBUF[i] holds: the word written last, or the unspecified word of the last reset (R29, R32). That the
unspecified word depends on the reset's number and the index alone, so that two engines with equal numbers hold equal
ones, is the model's choice: the spec relates the buffers of two engines in no way (R190; log 5). -/
def State.msgWord (s : State) (i : Nat) : Word := (memGet s.msgbuf i).getD (Config.msgbufAtReset s.resets i)

/-- MSGBUF[i] <- v (R44: one whole word). -/
def State.setMsgWord (s : State) (i : Nat) (v : Word) : State := { s with msgbuf := memSet s.msgbuf i v }

/-- Record an action in the ghost TRACE (R35). -/
def State.emit (s : State) (a : Action) : State := { s with trace := s.trace ++ [a] }

/-- Show an internal operation's output on the model's `out` (log 9). -/
def State.showOut (s : State) (o : OpResult) : State := { s with out := o }

/-- transmit (R110): the action tx(v, w). -/
def transmit (v : Word) (w : Tag) (s : State) : State := s.emit (.tx v w)

/-- beginListening (R111): the action listen. -/
def beginListening (s : State) : State := s.emit .listen

/-- The wait(n) of R114, R115, R138: time passes, no register changes (log 18). -/
def waitUnits (n : Nat) (s : State) : State := s.emit (.wait n)

/-- The free answer to the `n`-th poll beyond the listed answers: none, or any frame whose tag fits the tag wires
(R48, R113). -/
def freeAnswer (p : Params) (n : Nat) : Option Frame :=
  if Config.pollAnswered n then some { value := Config.pollValue n, tag := Config.pollTag n % 2 ^ p.tagW } else none

/-- The answer the adapter gives to the next poll, and the state with that answer used up: a frame returned once is
not returned again (R44, R112). -/
def takeAnswer (s : State) : Option Frame × State :=
  match s.answers with
  | r :: rest => (r, { s with answers := rest })
  | [] => (freeAnswer s.params s.polls, { s with polls := s.polls + 1 })

/-- pollOnce (R112): the action poll with its answer. -/
def pollOnce (s : State) : Option Frame × State :=
  let (r, s') := takeAnswer s
  (r, s'.emit (.poll r))

/-- XMIT (R114): tx(v, w), then wait(T_FRAME). -/
def xmit (v : Word) (w : Tag) (s : State) : State := waitUnits s.params.tFrame (transmit v w s)

/-- The inner loop of RECV (R115): `n` iterations left of round `round`, the next of them number `i`. -/
def pollRound (round : Nat) : Nat → Nat → State → Option Frame × State
  | 0, _, s => (none, s)
  | n + 1, i, s =>
    match pollOnce { s with pr := round, pi := i } with
    | (some f, s') => (some f, s')
    | (none, s') => pollRound round n (i + 1) (waitUnits s'.params.pollPause s')

/-- The outer loop of RECV (R115): `n` rounds left, the next of them number `round`. A round boundary does nothing. -/
def pollRounds : Nat → Nat → State → Option Frame × State
  | 0, _, s => (none, s)
  | n + 1, round, s =>
    match pollRound round s.params.pollIters 0 s with
    | (some f, s') => (some f, s')
    | (none, s') => pollRounds n (round + 1) s'

/-- The result latch (R116). -/
def latch (r : Option Frame) (s : State) : State :=
  match r with
  | none => { s with rxv := false, rxtag := 0, rxval := 0 }
  | some f => { s with rxv := true, rxtag := f.tag, rxval := f.value }

/-- RECV (R115) with its latch (R116): one listen, polls until the first frame or the end of the window, PR and PI
back to 0, wait(T_FRAME). -/
def recv (s : State) : Option Frame × State :=
  let (r, s') := pollRounds s.params.pollRounds 0 (beginListening s)
  (r, latch r (waitUnits s'.params.tFrame { s' with pr := 0, pi := 0 }))

/-- receiveAck (R117): one RECV, judged as an acknowledgment of the expected task. -/
def receiveAck (e : Task) (s : State) : Bool × State :=
  let (r, s') := recv s
  ((acceptFrame r .ack e s'.crc).1, s')

/-- Phase succession (R36): the next phase and index. P_DONE and P_FAIL have no successor and stay. -/
def nextPhase (p : Phase) (i q : Count) : Phase × Count :=
  match p with
  | .pTask => (.pQty, i)
  | .pQty => if q.toNat > 0 then (.pData, 0) else (.pTerm, i)
  | .pData => if i.toNat + 1 < q.toNat then (.pData, i + 1) else (.pTerm, i)
  | .pTerm => (.pDone, i)
  | .pDone => (.pDone, i)
  | .pFail => (.pFail, i)

/-- `fail(cause)` (spec/00_scope.md section 5.4; R180 to R183). Sender: a refused operand or the fifth failed attempt
goes to P_FAIL; an earlier failed attempt waits T_RETRY and goes back to U_TX. Receiver: ACKOK is cleared and the
negative acknowledgment is next. -/
def failStep (c : Cause) (s : State) : State :=
  match s.role with
  | .idle => s
  | .sender =>
    if c = .operandRange then { s with phase := .pFail, cause := some c }
    else if s.att.toNat < Config.maxAttempts then
      waitUnits s.params.tRetry { s with ustep := .uTx, cause := some c }
    else { s with phase := .pFail, cause := some .retryExhausted }
  | .receiver => { s with ackok := false, ustep := .uTxa, cause := some c }

/-- The success of a Sender attempt (R135, R136): the next phase, no attempts made in it yet. -/
def advanceSender (s : State) : State :=
  { s with phase := (nextPhase s.phase s.idx s.q).1, idx := (nextPhase s.phase s.idx s.q).2, att := 0, ustep := .uTx }

/-- What the Receiver does with an accepted frame of the kind it awaited (R153 to R164). -/
def receiverAccepts (k : Kind) (v : Word) (s : State) : Host.Outcome State Fault Refusal :=
  match k with
  | .task => .next { s with t := taskField v, ackok := true, ustep := .uTxa }
  | .quantity => .next { s with q := qtyLow v, ackok := true, ustep := .uTxa }
  | .data => .next { s with dw := v, crc := checksum s.params.crc v, ustep := .uRxc }
  | .checksum =>
    if s.idx.toNat < Config.msgbufWords then
      .next (({ s with ackok := true, ustep := .uTxa } : State).setMsgWord s.idx.toNat s.dw)
    else .fault .msgbufIndex
  | .terminator => .next { s with ackok := true, ustep := .uTxa }
  | .ack => .next s

/-- The judging part of a waiting micro-step (R85, R135, R153, R160, R178) on the result of its RECV. Where the engine
awaits nothing the frame is no event for it (R179). -/
def judge (r : Option Frame) (s : State) : Host.Outcome State Fault Refusal :=
  match expected s.role s.phase s.ustep with
  | none => .next s
  | some k =>
    match acceptFrame r k s.t s.crc with
    | (false, c) => .next (failStep (c.getD (missCause k)) s)
    | (true, _) =>
      if s.role = .sender then .next (advanceSender s)
      else
        match r with
        | none => .next s
        | some f => receiverAccepts k f.value s

/-- What both acceptances write (R126, R151): STATUS, and every working register but T, Q, PHASE and USTEP. The ghost
cause is cleared (log 10). -/
def acceptCommand (r : Role) (s : State) : State :=
  { s with
    statusDone := false, statusOk := false, statusBusy := true, role := r
    idx := 0, att := 0, dw := 0, crc := 0
    rxv := false, rxtag := 0, rxval := 0, ackok := false, pr := 0, pi := 0, cause := none }

/-- SEND acceptance (R126, R127). OP_QTY has seven bits, so trunc_7 of it is itself. USTEP is written when the SEND is
refused too, as R33 asks of every Sender (log 12). -/
def acceptSend (s : State) : State :=
  if qtyLegal s.opQty then
    acceptCommand .sender { s with t := s.opTask, q := s.opQty, phase := .pTask, ustep := .uTx }
  else failStep .operandRange (acceptCommand .sender { s with t := s.opTask, q := s.opQty, ustep := .uTx })

/-- RECEIVE acceptance (R151). -/
def acceptReceive (s : State) : State :=
  acceptCommand .receiver { s with t := Config.badTask, q := 0, phase := .pTask, ustep := .uRx }

/-- The completion step (R140, R170): the only way back to idle but reset. The results are written by a successful
RECEIVE alone (R28). -/
def complete (ok : Bool) (s : State) : State :=
  if s.role = .receiver ∧ ok = true then
    State.emit { s with statusOk := ok, statusDone := true, statusBusy := false, role := .idle,
                        resTask := s.t, resQty := s.q } (.done ok)
  else State.emit { s with statusOk := ok, statusDone := true, statusBusy := false, role := .idle } (.done ok)

end Sys2Proof.Machine
end

