-- ==== Sys2Proof/Machine/Commands.lean ====
section
/-! DEFINITION. The meanings of the four CMD codes (spec/30_encoding.md R72; spec/10_state.md R12). A write is accepted
when BUSY = 0 and the code is 1 or 2; every other write changes no state at all. -/

namespace Sys2Proof.Machine

/-- NOP: code 0, ignored (R12, R72). -/
def execNop (s : State) : Host.Outcome State Fault Refusal := .next s

/-- SEND: code 1; while busy it is ignored (R12), else it is accepted (R126, R127). -/
def execSend (s : State) : Host.Outcome State Fault Refusal :=
  if s.statusBusy then .next s else .next (acceptSend s)

/-- RECEIVE: code 2; while busy it is ignored (R12), else it is accepted (R151). -/
def execReceive (s : State) : Host.Outcome State Fault Refusal :=
  if s.statusBusy then .next s else .next (acceptReceive s)

/-- RESERVED3: code 3, ignored (R12, R72). -/
def execReserved3 (s : State) : Host.Outcome State Fault Refusal := .next s

end Sys2Proof.Machine
end

