-- ==== Sys2Proof/Machine/Frames.lean ====
section
/-! DEFINITION. The meanings of the seven frame rows. Executing a frame is the judging part of the waiting micro-step
at which it arrives (spec/60_exceptions.md R178; spec/44_sender.md R135 to R139; spec/45_receiver.md R153 to R168);
where the engine awaits no frame, a frame is no event for it (R179) and nothing changes (log 8). -/

namespace Sys2Proof.Machine

/-- TASK (R62): accepted by a Receiver in P_TASK (R154); a failure of any other wait. -/
def execTask (t : Task) (s : State) : Host.Outcome State Fault Refusal := judge (some (taskFrame t)) s

/-- ACK (R63): an attempt of the Sender succeeds when the echo is T (R136); a failure of any other wait. -/
def execAck (e : Task) (s : State) : Host.Outcome State Fault Refusal := judge (some (ackFrameOf e true)) s

/-- NACK (R63): never validates (R103), so it is a failure of every wait (R137). -/
def execNack (e : Task) (s : State) : Host.Outcome State Fault Refusal := judge (some (ackFrameOf e false)) s

/-- QTY (R64): accepted by a Receiver in P_QTY when at most 64 (R156); a failure of any other wait. -/
def execQty (n : BitVec 14) (s : State) : Host.Outcome State Fault Refusal := judge (some (qtyFrame n)) s

/-- TERM (R65): accepted by a Receiver in P_TERM (R164); a failure of any other wait. -/
def execTerm (s : State) : Host.Outcome State Fault Refusal := judge (some termFrame) s

/-- CSUM (R67): accepted by a Receiver in U_RXC when it equals CRC, and then the word is stored (R160); a failure of
any other wait. -/
def execCsum (c : Crc) (s : State) : Host.Outcome State Fault Refusal := judge (some (csumFrame c)) s

/-- DATA (R66): accepted by a Receiver in P_DATA, U_RX (R158); a failure of any other wait. -/
def execData (w : Word) (s : State) : Host.Outcome State Fault Refusal := judge (some (dataFrame w)) s

end Sys2Proof.Machine
end

