-- ==== Sys2Proof/Machine/Functions.lean ====
section
/-! DEFINITION. The meanings of the internal pure functions of the opcode table: the Frame Codec (spec/40_frame_codec.md
R80 to R85), the Checksum Engine (spec/41_checksum.md R90, R92) and the acknowledgment helpers
(spec/42_ack_helpers.md R100 to R102). They are combinational (R86, R90): their result appears on the model's `out`
and no register changes (log 9). -/

namespace Sys2Proof.Machine

/-- kindToTag (R80). -/
def execKindToTag (k : Kind) (s : State) : Host.Outcome State Fault Refusal :=
  .next (s.showOut (.tag (kindToTag k)))

/-- tagToKind (R81). -/
def execTagToKind (w : Tag) (s : State) : Host.Outcome State Fault Refusal :=
  .next (s.showOut (.kind (tagToKind w)))

/-- payloadValid (R83). -/
def execPayloadValid (k : Kind) (v : Word) (ctxT : Task) (ctxCrc : Crc) (s : State) :
    Host.Outcome State Fault Refusal :=
  .next (s.showOut (.truth (payloadValid k v ctxT ctxCrc)))

/-- expected (R84). -/
def execExpected (r : Role) (p : Phase) (u : UStep) (s : State) : Host.Outcome State Fault Refusal :=
  .next (s.showOut (.kind (expected r p u)))

/-- accept (R85). -/
def execAccept (f : Option Frame) (k : Kind) (ctxT : Task) (ctxCrc : Crc) (s : State) :
    Host.Outcome State Fault Refusal :=
  .next (s.showOut (.judgement (acceptFrame f k ctxT ctxCrc).1 (acceptFrame f k ctxT ctxCrc).2))

/-- checksum (R90), under the engine's CRC_PARAMS. -/
def execChecksum (w : Word) (s : State) : Host.Outcome State Fault Refusal :=
  .next (s.showOut (.crc (checksum s.params.crc w)))

/-- crc_update (R92), under the engine's CRC_PARAMS. -/
def execCrcUpdate (c : Crc) (b : Byte) (s : State) : Host.Outcome State Fault Refusal :=
  .next (s.showOut (.crc (crcUpdate s.params.crc c b)))

/-- encodeAck (R100). -/
def execEncodeAck (t : Task) (success : Bool) (s : State) : Host.Outcome State Fault Refusal :=
  .next (s.showOut (.ack (encodeAck t success)))

/-- decodeStatus (R101). -/
def execDecodeStatus (a : AckValue) (s : State) : Host.Outcome State Fault Refusal :=
  .next (s.showOut (.truth (decodeStatus a)))

/-- validateAck (R102). -/
def execValidateAck (a : AckValue) (e : Task) (s : State) : Host.Outcome State Fault Refusal :=
  .next (s.showOut (.truth (validateAck a e)))

end Sys2Proof.Machine
end

