-- ==== Sys2Proof/Machine/Transport.lean ====
section
/-! DEFINITION. The meanings of the transport operations of the opcode table (spec/43_transport_primitives.md R110 to
R117). What an operation returns appears on the model's `out` (log 9); an operation that returns nothing leaves
`out` at none. -/

namespace Sys2Proof.Machine

/-- transmit (R110): the action tx(v, w); the engine learns nothing from it. -/
def execTransmit (v : Word) (w : Tag) (s : State) : Host.Outcome State Fault Refusal :=
  .next ((transmit v w s).showOut .none)

/-- beginListening (R111): the action listen; the engine learns nothing from it. -/
def execBeginListening (s : State) : Host.Outcome State Fault Refusal :=
  .next ((beginListening s).showOut .none)

/-- pollOnce (R112): the action poll and its answer. -/
def execPollOnce (s : State) : Host.Outcome State Fault Refusal :=
  .next ((pollOnce s).2.showOut (.frame (pollOnce s).1))

/-- XMIT (R114): tx(v, w), wait(T_FRAME). -/
def execXmit (v : Word) (w : Tag) (s : State) : Host.Outcome State Fault Refusal :=
  .next ((xmit v w s).showOut .none)

/-- RECV (R115) with its latch (R116). -/
def execRecv (s : State) : Host.Outcome State Fault Refusal :=
  .next ((recv s).2.showOut (.frame (recv s).1))

/-- receiveAck (R117). -/
def execReceiveAck (e : Task) (s : State) : Host.Outcome State Fault Refusal :=
  .next ((receiveAck e s).2.showOut (.truth (receiveAck e s).1))

end Sys2Proof.Machine
end

