-- ==== Sys2Proof/Machine/Dispatch.lean ====
section
/-! DEFINITION. One arm per constructor of Instr, each a direct call of the instruction's own meaning. -/

namespace Sys2Proof.Machine

def exec (i : Instr) (s : State) : Host.Outcome State Fault Refusal :=
  match i with
  -- frames
  | .task t => Sys2Proof.Machine.execTask t s
  | .ack e => Sys2Proof.Machine.execAck e s
  | .nack e => Sys2Proof.Machine.execNack e s
  | .qty n => Sys2Proof.Machine.execQty n s
  | .term => Sys2Proof.Machine.execTerm s
  | .csum c => Sys2Proof.Machine.execCsum c s
  | .data w => Sys2Proof.Machine.execData w s
  -- host commands
  | .nop => Sys2Proof.Machine.execNop s
  | .send => Sys2Proof.Machine.execSend s
  | .receive => Sys2Proof.Machine.execReceive s
  | .reserved3 => Sys2Proof.Machine.execReserved3 s
  -- internal operations
  | .kindToTag k => Sys2Proof.Machine.execKindToTag k s
  | .tagToKind w => Sys2Proof.Machine.execTagToKind w s
  | .payloadValid k v x c => Sys2Proof.Machine.execPayloadValid k v x c s
  | .expected r p u => Sys2Proof.Machine.execExpected r p u s
  | .accept f k x c => Sys2Proof.Machine.execAccept f k x c s
  | .checksum w => Sys2Proof.Machine.execChecksum w s
  | .crcUpdate c b => Sys2Proof.Machine.execCrcUpdate c b s
  | .encodeAck t b => Sys2Proof.Machine.execEncodeAck t b s
  | .decodeStatus a => Sys2Proof.Machine.execDecodeStatus a s
  | .validateAck a e => Sys2Proof.Machine.execValidateAck a e s
  | .transmit v w => Sys2Proof.Machine.execTransmit v w s
  | .beginListening => Sys2Proof.Machine.execBeginListening s
  | .pollOnce => Sys2Proof.Machine.execPollOnce s
  | .xmit v w => Sys2Proof.Machine.execXmit v w s
  | .recv => Sys2Proof.Machine.execRecv s
  | .receiveAck e => Sys2Proof.Machine.execReceiveAck e s

end Sys2Proof.Machine
end

