-- ==== Sys2Proof/Machine/Sequencer.lean ====
section
/-! DEFINITION. The sequencer: the micro-step that POS selects (spec/10_state.md R14; spec/44_sender.md R144;
spec/45_receiver.md R172), and the host's accesses (spec/10_state.md R11, R12; spec/70_reset_and_hazards.md R200,
R201). -/

namespace Sys2Proof.Machine

/-- POS = (ROLE, PHASE, IDX, USTEP, ATT), the engine's program counter (R14). -/
def State.pos (s : State) : Role × Phase × Count × UStep × BitVec 3 := (s.role, s.phase, s.idx, s.ustep, s.att)

/-- The Sender's U_TX (R128 to R132). -/
def sendFrameStep (s : State) : Host.Outcome State Fault Refusal :=
  match s.phase with
  | .pTask => .next (xmit (taskValue s.t) (kindToTag .task) { s with att := s.att + 1, ustep := .uRx })
  | .pQty => .next (xmit (qtyValue s.q) (kindToTag .quantity) { s with att := s.att + 1, ustep := .uRx })
  | .pData =>
    if s.idx.toNat < Config.msgbufWords then
      .next (xmit (s.msgWord s.idx.toNat) (kindToTag .data)
        { s with dw := s.msgWord s.idx.toNat, att := s.att + 1, ustep := .uTxc })
    else .fault .msgbufIndex
  | .pTerm => .next (xmit termValue (kindToTag .terminator) { s with att := s.att + 1, ustep := .uRx })
  | .pDone => .fault .illegalPosition
  | .pFail => .fault .illegalPosition

/-- The Sender's U_TXC (R133). -/
def sendChecksumStep (s : State) : Host.Outcome State Fault Refusal :=
  .next (xmit (csumValue (checksum s.params.crc s.dw)) (kindToTag .checksum)
    { s with crc := checksum s.params.crc s.dw, ustep := .uRx })

/-- The Receiver's U_TXA (R166). -/
def sendAckStep (s : State) : Host.Outcome State Fault Refusal :=
  if s.ackok then
    .next (xmit (ackValue s.t s.ackok) (kindToTag .ack)
      { s with phase := (nextPhase s.phase s.idx s.q).1, idx := (nextPhase s.phase s.idx s.q).2, ustep := .uRx,
               ackok := false })
  else .next (xmit (ackValue s.t s.ackok) (kindToTag .ack) { s with phase := .pFail })

/-- A waiting micro-step: one RECV (R135, R153, R160), then what it returned is decoded and run. Silence and a frame
that is no row of the table (R70, R71) are judged all the same (R82, R164). -/
def awaitStep (s : State) : Host.Outcome State Fault Refusal :=
  match recv s with
  | (none, s') => judge none s'
  | (some f, s') =>
    match decodePair f with
    | .ok i => exec i s'
    | .error _ => judge (some f) s'

/-- The Sender's micro-steps in the four phases that have any. -/
def senderStep (s : State) : Host.Outcome State Fault Refusal :=
  match s.ustep with
  | .uTx => sendFrameStep s
  | .uTxc => if s.phase = .pData then sendChecksumStep s else .fault .illegalPosition
  | .uRx => awaitStep s
  | .uRxc => .fault .illegalPosition
  | .uTxa => .fault .illegalPosition

/-- The Receiver's micro-steps in the four phases that have any. -/
def receiverStep (s : State) : Host.Outcome State Fault Refusal :=
  match s.ustep with
  | .uTx => .fault .illegalPosition
  | .uTxc => .fault .illegalPosition
  | .uRx => awaitStep s
  | .uRxc => if s.phase = .pData then awaitStep s else .fault .illegalPosition
  | .uTxa => sendAckStep s

/-- The engine's next micro-step. An idle engine does nothing (R119, R191); P_DONE and P_FAIL complete (R140, R170). -/
def engineStep (s : State) : Host.Outcome State Fault Refusal :=
  match s.role, s.phase with
  | .idle, _ => .next s
  | _, .pDone => .next (complete true s)
  | _, .pFail => .next (complete false s)
  | .sender, _ => senderStep s
  | .receiver, _ => receiverStep s

/-- The number of the first word of MSGBUF on the host port (R11). -/
def msgbufBase : Nat := 64

/-- Whether a register number is a word of MSGBUF: 64 to 127 (R11). -/
def isMsgbufNumber (num : Nat) : Bool := decide (msgbufBase ≤ num) && decide (num < msgbufBase + Config.msgbufWords)

/-- A write to CMD: the action cmd(c), and the command the code stands for (R12, R72). The code is the low two bits;
the register ignores the others (R11). -/
def writeCmd (v : Word) (s : State) : Host.Outcome State Fault Refusal :=
  exec (decodeCommand (v.setWidth 2)) (s.emit (.cmd (v.setWidth 2)))

/-- A host write (R11): to CMD, OP_TASK, OP_QTY or MSGBUF; every other number ignores it. A write to MSGBUF during a
RECEIVE has no meaning (R34, U6; log 7). -/
def hostWrite (num : Nat) (v : Word) (s : State) : Host.Outcome State Fault Refusal :=
  if num = 0 then writeCmd v s
  else if num = 2 then .next { s with opTask := v.setWidth 12 }
  else if num = 3 then .next { s with opQty := v.setWidth 7 }
  else if isMsgbufNumber num then
    if s.role = .receiver then .refused .msgbufWriteDuringReceive
    else .next (s.setMsgWord (num - msgbufBase) v)
  else .next s

/-- What a register reads as, zero extended (R11): CMD and the unimplemented numbers read 0. -/
def State.readReg (s : State) (num : Nat) : Word :=
  if num = 1 then s.statusWord.setWidth 32
  else if num = 2 then s.opTask.setWidth 32
  else if num = 3 then s.opQty.setWidth 32
  else if num = 4 then s.resTask.setWidth 32
  else if num = 5 then s.resQty.setWidth 32
  else if isMsgbufNumber num then s.msgWord (num - msgbufBase)
  else 0

/-- A host read (R11): no side effect, and a word of MSGBUF is wholly the old or wholly the new one (R44), during a
RECEIVE too, where the host must not rely on it (R34; log 6). -/
def hostRead (num : Nat) (s : State) : Host.Outcome State Fault Refusal :=
  .next { s with hostRd := s.readReg num }

/-- Reset (R200, R201): every register, MSGBUF and the ghost values as R32 says; the parameters (R30), the adapter
(R200) and the host's coming accesses are not the engine's and stay. -/
def resetEngine (s : State) : State :=
  { State.reset with
    answers := s.answers, polls := s.polls, host := s.host, hostRd := s.hostRd, out := s.out
    params := s.params, resets := s.resets + 1 }

/-- The host's next access, `quiet` when none is listed, and the state with it used up. -/
def takeHost (s : State) : HostEvent × State :=
  match s.host with
  | ev :: rest => (ev, { s with host := rest })
  | [] => (.quiet, s)

/-- What a host access, or its silence, makes the machine do. -/
def runEvent (ev : HostEvent) (s : State) : Host.Outcome State Fault Refusal :=
  match ev with
  | .quiet => engineStep s
  | .write num v => hostWrite num v s
  | .read num => hostRead num s
  | .reset => .next (resetEngine s)

/-- Where a frame is awaited that can be judged on its own merits (R84): the position that placing a frame word puts
an engine to that awaits nothing (log 15). -/
def placeAwaiting (k : Option Kind) (s : State) : State :=
  match k with
  | some .task => { s with statusBusy := true, statusDone := false, role := .receiver, phase := .pTask, ustep := .uRx,
                           t := Config.badTask }
  | some .quantity => { s with statusBusy := true, statusDone := false, role := .receiver, phase := .pQty, ustep := .uRx }
  | some .data => { s with statusBusy := true, statusDone := false, role := .receiver, phase := .pData, ustep := .uRx,
                           idx := 0, q := 1 }
  | some .checksum => { s with statusBusy := true, statusDone := false, role := .receiver, phase := .pData,
                               ustep := .uRxc, idx := 0, q := 1, crc := checksum s.params.crc s.dw }
  | some .terminator => { s with statusBusy := true, statusDone := false, role := .receiver, phase := .pTerm,
                                 ustep := .uRx }
  | some .ack => { s with statusBusy := true, statusDone := false, role := .sender, phase := .pTask, ustep := .uRx,
                          att := 1 }
  | none => { s with statusBusy := true, statusDone := false, role := .receiver, phase := .pTask, ustep := .uRx,
                     t := Config.badTask }

/-- Place a frame word where the next RECV returns it: the adapter's next answer, on an engine that awaits a frame,
with the host silent (log 15). -/
def placeFrame (fw : FrameWord) (s : State) : State :=
  let s' := if (expected s.role s.phase s.ustep).isSome then s else placeAwaiting (tagToKind (frameWordTag fw)) s
  { s' with answers := some (frameOfWord fw) :: s'.answers, host := .quiet :: s'.host }

/-- Place a CMD code where the next step fetches it: the host's next access writes it. -/
def placeCommand (c : CmdCode) (s : State) : State := { s with host := .write 0 (c.setWidth 32) :: s.host }

end Sys2Proof.Machine
end

