-- ==== Sys2Proof/Machine/Step.lean ====
section
/-! DEFINITION. One step of the machine: the host's next access, or, while the host is silent, the engine's next
micro-step (spec/00_scope.md R6; logs 1, 2). -/

namespace Sys2Proof.Machine

/-- One step. -/
def step (s : State) : Host.Outcome State Fault Refusal :=
  runEvent (takeHost s).1 (takeHost s).2

/-- `s` with an instruction of the table placed where the next step fetches it (log 15): a CMD code as the host's next
write, a frame word as the adapter's next answer to an engine that awaits a frame. -/
def State.withFetchWord (s : State) (nbits w : Nat) : State :=
  match codeWordOfBits nbits w with
  | some (.frame fw) => placeFrame fw s
  | some (.command c) => placeCommand c s
  | none => s

end Sys2Proof.Machine
end

