-- ==== Sys2Proof/Machine/Loopback.lean ====
section
/-! DEFINITION. Two engines over the reference channel of spec/20_memory.md R50, the lossless loopback: two first-in
first-out queues of frames, one per direction. It is a premise of claims about a pair of engines, not a property of
the hardware (R48, R50; log 25). -/

namespace Sys2Proof.Machine

/-- A pair of engines and the frames in flight between them. The two share no memory (R190), but an unwritten word of
MSGBUF is one free value for both when their reset counts are equal, which is the model's choice (logs 5, 25). -/
structure Link where
  /-- One end. -/
  left : State
  /-- The other end. -/
  right : State
  /-- Frames on their way to the right end, oldest first. -/
  toRight : List Frame
  /-- Frames on their way to the left end, oldest first. -/
  toLeft : List Frame
  deriving DecidableEq, Repr

/-- The frames transmitted in a list of actions, in order. -/
def txFrames : List Action → List Frame
  | [] => []
  | .tx v w :: as => { value := v, tag := w } :: txFrames as
  | .listen :: as => txFrames as
  | .poll _ :: as => txFrames as
  | .wait _ :: as => txFrames as
  | .cmd _ :: as => txFrames as
  | .done _ :: as => txFrames as

/-- Whether an end has nothing to do: it is idle and its host makes no further access (R119, R191). -/
def atRest (s : State) : Bool := decide (s.role = .idle) && s.host.isEmpty

/-- What one step of an end sends, and the queue it leaves. -/
def endMoves (s : State) (rest : List Frame) : Option (State × List Frame × List Frame) :=
  match step s with
  | .next t => some (t, txFrames (t.trace.drop s.trace.length), rest)
  | .fault _ => none
  | .refused _ => none

/-- Whether an end's next step is a waiting micro-step: it awaits a frame and its host is silent. -/
def listens (s : State) : Bool :=
  decide ((takeHost s).1 = .quiet) && (expected s.role s.phase s.ustep).isSome

/-- The step of an engine whose incoming queue is `q`, without a window closing: its next state, the frames it
transmitted and what is left of the queue, whose head a poll removes; `none` where it is at rest, where it listens and
the queue is empty, and where the step stops. -/
def endAlone (s : State) (q : List Frame) : Option (State × List Frame × List Frame) :=
  if atRest s then none
  else if listens s then
    match q with
    | [] => none
    | f :: rest => endMoves { s with answers := [some f] } rest
  else endMoves s q

/-- The step of an engine that listens to an empty queue for a whole window: every poll answers none. -/
def endWindow (s : State) (q : List Frame) : Option (State × List Frame × List Frame) :=
  if listens s && q.isEmpty then
    endMoves { s with answers := List.replicate (s.params.pollRounds * s.params.pollIters) none } q
  else none

/-- One step of an end. Its window closes only when the peer, with its own queue, cannot move: no timeout fires while
the peer is about to transmit (R50; log 25). -/
def endStep (s : State) (q : List Frame) (peer : State) (peerQ : List Frame) :
    Option (State × List Frame × List Frame) :=
  match endAlone s q with
  | some r => some r
  | none => if (endAlone peer peerQ).isSome then none else endWindow s q

/-- The left end moves, if it can. -/
def linkLeft (l : Link) : Option Link :=
  match endStep l.left l.toLeft l.right l.toRight with
  | some (t, sent, rest) => some { l with left := t, toRight := l.toRight ++ sent, toLeft := rest }
  | none => none

/-- The right end moves, if it can. -/
def linkRight (l : Link) : Option Link :=
  match endStep l.right l.toRight l.left l.toLeft with
  | some (t, sent, rest) => some { l with right := t, toLeft := l.toLeft ++ sent, toRight := rest }
  | none => none

/-- One step of the pair under a schedule's choice of the end that moves; an end that cannot move lets the other. -/
def linkStep (leftFirst : Bool) (l : Link) : Link :=
  if leftFirst then ((linkLeft l).orElse fun _ => linkRight l).getD l
  else ((linkRight l).orElse fun _ => linkLeft l).getD l

/-- The pair after a schedule. -/
def linkRun : List Bool → Link → Link
  | [], l => l
  | b :: bs, l => linkRun bs (linkStep b l)

end Sys2Proof.Machine
end

