-- ==== Sys2Proof/Safety.lean ====
section
/-! DEFINITION. The terms claims are stated in: the invariant of spec/10_state.md R33, what a safe run is, the ghost-free
view of a state, and runs of the engine under a silent host. -/

namespace Sys2Proof.Machine

/-- The four phases in which USTEP is meaningful (R17). -/
def activePhase (p : Phase) : Bool :=
  match p with
  | .pTask => true
  | .pQty => true
  | .pData => true
  | .pTerm => true
  | .pDone => false
  | .pFail => false

/-- The engine awaits a frame: its position is a row of the table of spec/40_frame_codec.md R84. -/
def State.awaits (s : State) : Bool := waitingPosition s.role s.phase s.ustep

/-- The invariant of every reachable state: R33, with T as the step rules give it where R33's own sentence differs
(log 11), and with what R18, R19, R23 to R26, R40 and R113 add. -/
structure Inv (s : State) : Prop where
  /-- MSGBUF keeps its canonical form (R40: indices below 64). -/
  mem : Memory.wf s.msgbuf = true
  /-- BUSY = (ROLE != IDLE) (R15, R33). -/
  busy : s.statusBusy = true ↔ s.role ≠ .idle
  /-- BUSY and DONE are never both 1 (R13, R33). -/
  busyDone : ¬(s.statusBusy = true ∧ s.statusDone = true)
  /-- OK is set only with DONE, and both are cleared together (R13). -/
  okDone : s.statusOk = true → s.statusDone = true
  /-- ATT <= 5 (R19, R33). -/
  attMax : s.att.toNat ≤ 5
  /-- PHASE != P_FAIL implies Q <= 64 (R33). -/
  qMax : s.phase ≠ .pFail → s.q.toNat ≤ 64
  /-- PHASE = P_DATA implies Q >= 1 and IDX < Q (R33). -/
  dataIdx : s.phase = .pData → s.idx.toNat < s.q.toNat
  /-- A Sender's micro-steps (R33). -/
  senderUstep : s.role = .sender → s.ustep = .uTx ∨ s.ustep = .uTxc ∨ s.ustep = .uRx
  /-- A Receiver's micro-steps (R33). -/
  receiverUstep : s.role = .receiver → s.ustep = .uRx ∨ s.ustep = .uRxc ∨ s.ustep = .uTxa
  /-- U_TXC is a Sender's, in P_DATA (R17, R33). -/
  txcData : s.ustep = .uTxc → s.role = .sender ∧ s.phase = .pData
  /-- U_RXC is a Receiver's, in P_DATA (R17, R33). -/
  rxcData : s.ustep = .uRxc → s.role = .receiver ∧ s.phase = .pData
  /-- Until a Task frame is accepted the Receiver's T is 0xBAD (R20, R33). Between the acceptance (R153) and the
  acknowledgment that ends P_TASK (R166), at U_TXA with ACKOK set, T is the task received (log 11). -/
  taskUnknown : s.role = .receiver → s.phase = .pTask → (s.ustep = .uRx ∨ s.ackok = false) → s.t = Config.badTask
  /-- Before a transmission at most four attempts were made (R128). -/
  attTx : s.role = .sender → activePhase s.phase = true → s.ustep = .uTx → s.att.toNat ≤ 4
  /-- After a transmission at least one attempt was made (R135). -/
  attRx : s.role = .sender → activePhase s.phase = true → s.ustep ≠ .uTx → 1 ≤ s.att.toNat
  /-- The Receiver counts no attempts (R19). -/
  attReceiver : s.role = .receiver → s.att = 0
  /-- The Sender does not use ACKOK (R25). -/
  ackokSender : s.role = .sender → s.ackok = false
  /-- ACKOK is 0 while a frame is awaited (R25, R166). -/
  ackokWait : s.role = .receiver → s.ustep = .uRx ∨ s.ustep = .uRxc → s.ackok = false
  /-- PR and PI are 0 outside RECV (R26). -/
  window : s.pr = 0 ∧ s.pi = 0
  /-- RXTAG and RXVAL are 0 when nothing was received (R24). -/
  latched : s.rxv = false → s.rxtag = 0 ∧ s.rxval = 0
  /-- RXTAG fits TAG_W bits (R24). -/
  rxtagFits : s.params.tagFits s.rxtag = true
  /-- The attached adapter presents tags of TAG_W bits alone (R113, log 19). -/
  answersFit : s.answers.all s.params.answerFits = true
  /-- CRC is the checksum of DW where a rule reads it or has just transmitted it (R23). -/
  crcOfWord : s.ustep = .uRxc ∨ (s.role = .sender ∧ s.phase = .pData ∧ s.ustep = .uRx) →
    s.crc = checksum s.params.crc s.dw

/-- A stop that is not the machine's fault: the host wrote MSGBUF during a RECEIVE, to which R34 gives no meaning. -/
def hostMisuse (s : State) : Prop :=
  ∃ num v rest, s.host = .write num v :: rest ∧ isMsgbufNumber num = true ∧ s.role = .receiver

/-- A step is safe: it answers a next state, or the host misused MSGBUF and the step is refused for that. -/
def safeStep (s : State) : Prop :=
  (∃ t, step s = .next t) ∨ (hostMisuse s ∧ step s = .refused .msgbufWriteDuringReceive)

/-- The state without the ghost values of R35. -/
def State.eraseGhost (s : State) : State := { s with cause := none, trace := [] }

/-- The state with other ghost values (R35). -/
def State.withGhost (s : State) (c : Option Cause) (tr : List Action) : State := { s with cause := c, trace := tr }

/-- Runs of the engine alone: the states after 0, 1, … steps; a stop ends the run at `none`. -/
def runSteps : Nat → State → Option State
  | 0, s => some s
  | n + 1, s =>
    match step s with
    | .next t => runSteps n t
    | .fault _ => none
    | .refused _ => none

/-- A frame never validates as an acknowledgment of task `t` (R102, R136). -/
def neverAcks (t : Task) (f : Option Frame) : Prop :=
  ∀ x, f = some x → ¬(x.tag = 13 ∧ (ackField x.value).toNat = 4096 + t.toNat)

/-- The number of polls among actions. -/
def pollCount : List Action → Nat
  | [] => 0
  | .poll _ :: as => pollCount as + 1
  | .tx _ _ :: as => pollCount as
  | .listen :: as => pollCount as
  | .wait _ :: as => pollCount as
  | .cmd _ :: as => pollCount as
  | .done _ :: as => pollCount as

/-- The time units the waits among actions add up to (spec/70_reset_and_hazards.md R220). -/
def waitedUnits : List Action → Nat
  | [] => 0
  | .wait n :: as => n + waitedUnits as
  | .poll _ :: as => waitedUnits as
  | .tx _ _ :: as => waitedUnits as
  | .listen :: as => waitedUnits as
  | .cmd _ :: as => waitedUnits as
  | .done _ :: as => waitedUnits as

/-- The waited time as a duration: so many of the parameter TIME_UNIT (R4, R220). -/
def waitedTime (p : Params) (as : List Action) : Nat := waitedUnits as * p.timeUnit

/-- The actions of `n` polls that found nothing, each followed by its pause (R115). -/
def silentPolls (pause : Nat) : Nat → List Action
  | 0 => []
  | n + 1 => .poll none :: .wait pause :: silentPolls pause n

/-- The bits of a frame word that its row's fields name; the others are unused (R62 to R67, R69). -/
def definedBits : Instr → FrameWord
  | .task _ => 0x3F00000FFF#38
  | .ack _ => 0x3F00001FFF#38
  | .nack _ => 0x3F00001FFF#38
  | .qty _ => 0x3F00003FFF#38
  | .term => 0x3F00007FFF#38
  | .csum _ => 0x3F0000FFFF#38
  | .data _ => 0x3FFFFFFFFF#38
  | .nop => 0
  | .send => 0
  | .receive => 0
  | .reserved3 => 0
  | .kindToTag _ => 0
  | .tagToKind _ => 0
  | .payloadValid _ _ _ _ => 0
  | .expected _ _ _ => 0
  | .accept _ _ _ _ => 0
  | .checksum _ => 0
  | .crcUpdate _ _ => 0
  | .encodeAck _ _ => 0
  | .decodeStatus _ => 0
  | .validateAck _ _ => 0
  | .transmit _ _ => 0
  | .beginListening => 0
  | .pollOnce => 0
  | .xmit _ _ => 0
  | .recv => 0
  | .receiveAck _ => 0

/-- The kind of the frame an instruction of the frame format stands for. -/
def frameKind : Instr → Option Kind
  | .task _ => some .task
  | .ack _ => some .ack
  | .nack _ => some .ack
  | .qty _ => some .quantity
  | .term => some .terminator
  | .csum _ => some .checksum
  | .data _ => some .data
  | .nop => none
  | .send => none
  | .receive => none
  | .reserved3 => none
  | .kindToTag _ => none
  | .tagToKind _ => none
  | .payloadValid _ _ _ _ => none
  | .expected _ _ _ => none
  | .accept _ _ _ _ => none
  | .checksum _ => none
  | .crcUpdate _ _ => none
  | .encodeAck _ _ => none
  | .decodeStatus _ => none
  | .validateAck _ _ => none
  | .transmit _ _ => none
  | .beginListening => none
  | .pollOnce => none
  | .xmit _ _ => none
  | .recv => none
  | .receiveAck _ => none

end Sys2Proof.Machine
end

