-- ==== Sys2Proof/Certificates/Slice0/Obligations.lean ====
section
/-! DEFINITION. The statements for the provers. The rule of spec/ each formalises stands in its docstring and in
OBLIGATIONS.json. In the statements about steps, `takeHost s = (.quiet, s')` says that the host is silent for this
step, and `s'` is `s` with that silence used up. Where a result stands on the model's `out`, that place is the
model's own (log 9). -/

open Sys2Proof Sys2Proof.Machine

/-! ## Encoding -/

/-- Decoding the encoding of a well-formed instruction gives it back, for every instruction with an encoding. -/
def Obligations.DecodeOfEncodeIsTheInstruction : Prop :=
  ∀ (i : Instr) (cw : CodeWord), i.wf = true → encode i = some cw → decode cw = .ok i

/-- Encoding what a frame word decodes to gives the frame word with its unused bits cleared, and nothing else changed
(R69: the unused bits are 0 when transmitted and ignored when received). -/
def Obligations.EncodeOfDecodeClearsUnusedBits : Prop :=
  ∀ (fw : FrameWord) (i : Instr), decodeFrame fw = .ok i → encode i = some (.frame (fw &&& definedBits i))

/-- The decoder follows the opcode map of R76: a frame word is of a row's kind exactly when FW & mask = match, and it is
rejected exactly when it matches no row. -/
def Obligations.DecoderFollowsTheOpcodeMap : Prop :=
  (∀ (fw : FrameWord) (r : OpcodeRow), r ∈ opcodeRows →
    (r.hits fw = true ↔ ∃ i, decodeFrame fw = .ok i ∧ i.mnemonic = r.mnemonic)) ∧
  ∀ fw : FrameWord, (∀ r ∈ opcodeRows, r.hits fw = false) ↔ ∃ e, decodeFrame fw = .error e

/-- A frame is rejected as unrecognised exactly for the tags of R70, those of 64 and more that a TAG_W above 6 lets
through included, and as an invalid Terminator exactly for tag 15 with a sentinel other than 0xE2D (R71); and the frame
word of a frame with a tag below 64 decodes as the frame (R60). -/
def Obligations.RejectedFrameWordsAreNamed : Prop :=
  ∀ (tag : Tag) (v : Word),
    (decodePair { value := v, tag := tag } = .error (.unrecognisedTag tag) ↔
      tag ≠ 12 ∧ tag ≠ 13 ∧ tag ≠ 14 ∧ tag ≠ 15 ∧ tag ≠ 16 ∧ tag ≠ 32) ∧
    ((∃ x, decodePair { value := v, tag := tag } = .error (.invalidTerminator x)) ↔
      tag = 15 ∧ v.toNat % 2 ^ 15 ≠ 0xE2D) ∧
    (tag < 64 → decodeFrame (frameWordOf tag v) = decodePair { value := v, tag := tag })

/-- Frame words written out in spec/95_test_vectors.md section 2.1 and the CMD codes of R72 decode as they say. -/
def Obligations.WrittenOutWordsDecode : Prop :=
  decodeTableWord 40 0x0CFFFFF007 = some (.task 7) ∧
  decodeTableWord 40 0x0D00001BAD = some (.ack 0xBAD) ∧
  decodeTableWord 40 0x0D00000BAD = some (.nack 0xBAD) ∧
  decodeTableWord 40 0x0E00003FFF = some (.qty 16383) ∧
  decodeTableWord 40 0x0F00000E2D = some .term ∧
  decodeTableWord 40 0x0F00000E2C = none ∧
  decodeTableWord 40 0x10000030EC = some (.csum 0x30EC) ∧
  decodeTableWord 40 0x2012345678 = some (.data 0x12345678) ∧
  decodeTableWord 40 0x1100000000 = none ∧
  decodeTableWord 8 0 = some .nop ∧ decodeTableWord 8 1 = some .send ∧
  decodeTableWord 8 2 = some .receive ∧ decodeTableWord 8 3 = some .reserved3

/-- A step runs the instruction it fetches. A host write to CMD: the action cmd(c), recorded for every code (log 23), then
the command of the code, which is the two low bits of what is written (R11, R12; log 20). A waiting micro-step: one
RECV, then the instruction that the received frame decodes to; that running a frame row is judging the frame is the
model's reading (log 8). -/
def Obligations.StepRunsTheFetchedInstruction : Prop :=
  (∀ (s s' : State) (v : Word), takeHost s = (.write 0 v, s') →
    step s = exec (decodeCommand (v.setWidth 2)) { s' with trace := s'.trace ++ [.cmd (v.setWidth 2)] }) ∧
  ∀ (s s' s'' : State) (f : Frame) (i : Instr), takeHost s = (.quiet, s') → s'.awaits = true →
    recv s' = (some f, s'') → decodePair f = .ok i → step s = exec i s''

/-- A waiting micro-step is one RECV and the judgement of whatever it returned, silence and undecodable frames included:
running the decoded instruction is the same as judging the frame with all its bits (R69, R85). -/
def Obligations.WaitingStepIsRecvThenJudgement : Prop :=
  ∀ (s s' s'' : State) (r : Option Frame), takeHost s = (.quiet, s') → s'.awaits = true → recv s' = (r, s'') →
    step s = judge r s''

/-! ## Transport -/

/-- RECV (R115, R116): it polls until the first frame, whatever its tag, within POLL_ROUNDS x POLL_ITERS polls, and
reports none when all of them found nothing; it latches the result and waits T_FRAME. -/
def Obligations.RecvReturnsTheFirstFrameOfItsWindow : Prop :=
  (∀ (s : State) (f : Frame) (rest : List (Option Frame)) (k : Nat),
    s.answers = List.replicate k none ++ some f :: rest → k < s.params.pollRounds * s.params.pollIters →
    exec .recv s = .next { s with
      answers := rest
      trace := s.trace ++ (.listen :: silentPolls s.params.pollPause k ++ [.poll (some f), .wait s.params.tFrame])
      rxv := true, rxtag := f.tag, rxval := f.value, pr := 0, pi := 0, out := .frame (some f) }) ∧
  ∀ (s : State) (rest : List (Option Frame)),
    s.answers = List.replicate (s.params.pollRounds * s.params.pollIters) none ++ rest →
    exec .recv s = .next { s with
      answers := rest
      trace := s.trace ++ (.listen :: silentPolls s.params.pollPause (s.params.pollRounds * s.params.pollIters) ++
        [.wait s.params.tFrame])
      rxv := false, rxtag := 0, rxval := 0, pr := 0, pi := 0, out := .frame none }

/-- RECV ends in every state, whatever the adapter answers, with between 1 and POLL_ROUNDS x POLL_ITERS polls, and
changes the answers left, the trace, the latch, PR and PI (both 0 after it) and `out` alone (R115, R120). -/
def Obligations.RecvAlwaysEndsWithinItsWindow : Prop :=
  ∀ s : State, ∃ (r : Option Frame) (a : List (Option Frame)) (p : Nat) (tr : List Action),
    exec .recv s = .next { s with
      answers := a, polls := p, trace := s.trace ++ tr, pr := 0, pi := 0
      rxv := r.isSome, rxtag := (r.map Frame.tag).getD 0, rxval := (r.map Frame.value).getD 0, out := .frame r } ∧
    1 ≤ pollCount tr ∧ pollCount tr ≤ s.params.pollRounds * s.params.pollIters

/-- receiveAck (R117): one RECV, true exactly when it returned a frame of tag 13 whose low 13 bits are 0x1000 + the
expected task. -/
def Obligations.ReceiveAckJudgesOneRecv : Prop :=
  ∀ (s s' : State) (e : Task) (r : Option Frame), recv s = (r, s') →
    ∃ b, exec (.receiveAck e) s = .next { s' with out := .truth b } ∧
      (b = true ↔ ∃ f, r = some f ∧ f.tag = 13 ∧ f.value.toNat % 2 ^ 13 = 0x1000 + e.toNat)

/-- transmit, beginListening and XMIT are their actions and nothing else (R110, R111, R114). For a tag other than the
six, or a value that does not fit its tag, which R110 excludes, that is the model's choice (log 27). -/
def Obligations.TransmitListenAndXmitAreTheirActions : Prop :=
  ∀ (s : State) (v : Word) (w : Tag),
    exec (.transmit v w) s = .next { s with trace := s.trace ++ [.tx v w], out := .none } ∧
    exec .beginListening s = .next { s with trace := s.trace ++ [.listen], out := .none } ∧
    exec (.xmit v w) s = .next { s with trace := s.trace ++ [.tx v w, .wait s.params.tFrame], out := .none }

/-- pollOnce answers the adapter's next answer and uses it up; beyond the listed answers it answers anything, and still
completes (R44, R48, R112). -/
def Obligations.PollOnceUsesUpItsAnswer : Prop :=
  (∀ (s : State) (r : Option Frame) (rest : List (Option Frame)), s.answers = r :: rest →
    exec .pollOnce s = .next { s with answers := rest, trace := s.trace ++ [.poll r], out := .frame r }) ∧
  ∀ s : State, s.answers = [] → ∃ r, exec .pollOnce s = .next { s with
    polls := s.polls + 1, trace := s.trace ++ [.poll r], out := .frame r }

/-! ## Frame Codec -/

/-- kindToTag (R80), its six values, and tagToKind (R81), the kind whose tag it is and Unknown for every other tag. -/
def Obligations.TagAndKindTables : Prop :=
  ∀ s : State,
    (exec (.kindToTag .task) s = .next { s with out := .tag 12 } ∧
      exec (.kindToTag .ack) s = .next { s with out := .tag 13 } ∧
      exec (.kindToTag .quantity) s = .next { s with out := .tag 14 } ∧
      exec (.kindToTag .terminator) s = .next { s with out := .tag 15 } ∧
      exec (.kindToTag .checksum) s = .next { s with out := .tag 16 } ∧
      exec (.kindToTag .data) s = .next { s with out := .tag 32 }) ∧
    ∀ w : Tag, ∃ o : Option Kind, exec (.tagToKind w) s = .next { s with out := .kind o } ∧
      (∀ k, o = some k ↔ kindToTag k = w) ∧
      (o = none ↔ w ≠ 12 ∧ w ≠ 13 ∧ w ≠ 14 ∧ w ≠ 15 ∧ w ≠ 16 ∧ w ≠ 32)

/-- payloadValid (R83), each kind on the low bits of the value that its field has. -/
def Obligations.PayloadValidTable : Prop :=
  ∀ (s : State) (v : Word) (x : Task) (c : Crc),
    exec (.payloadValid .task v x c) s = .next { s with out := .truth true } ∧
    exec (.payloadValid .quantity v x c) s = .next { s with out := .truth (decide (v.toNat % 2 ^ 14 ≤ 64)) } ∧
    exec (.payloadValid .data v x c) s = .next { s with out := .truth true } ∧
    exec (.payloadValid .checksum v x c) s = .next { s with out := .truth (decide (v.toNat % 2 ^ 16 = c.toNat)) } ∧
    exec (.payloadValid .terminator v x c) s = .next { s with out := .truth (decide (v.toNat % 2 ^ 15 = 0xE2D)) } ∧
    exec (.payloadValid .ack v x c) s =
      .next { s with out := .truth (decide (v.toNat % 2 ^ 13 = 0x1000 + x.toNat)) }

/-- expected (R84): the rows of its table, and no kind anywhere else. -/
def Obligations.ExpectedTable : Prop :=
  ∀ (s : State) (r : Role) (p : Phase) (u : UStep), ∃ o : Option Kind,
    exec (.expected r p u) s = .next { s with out := .kind o } ∧
    (o = some .ack ↔ r = .sender ∧ activePhase p = true ∧ u = .uRx) ∧
    (o = some .task ↔ r = .receiver ∧ p = .pTask ∧ u = .uRx) ∧
    (o = some .quantity ↔ r = .receiver ∧ p = .pQty ∧ u = .uRx) ∧
    (o = some .data ↔ r = .receiver ∧ p = .pData ∧ u = .uRx) ∧
    (o = some .checksum ↔ r = .receiver ∧ p = .pData ∧ u = .uRxc) ∧
    (o = some .terminator ↔ r = .receiver ∧ p = .pTerm ∧ u = .uRx)

/-- accept (R85, R178): the checks in their order, each with its cause under the name the awaited kind gives it. -/
def Obligations.AcceptChecksInOrder : Prop :=
  ∀ (s : State) (k : Kind) (x : Task) (c : Crc),
    exec (.accept none k x c) s =
      .next { s with out := .judgement false (some (if k = .ack then .ackMiss else .miss)) } ∧
    ∀ f : Frame,
      (tagToKind f.tag = none → exec (.accept (some f) k x c) s =
        .next { s with out := .judgement false (some (if k = .ack then .ackWrongKind else .violation)) }) ∧
      (∀ k', tagToKind f.tag = some k' → k' ≠ k → exec (.accept (some f) k x c) s =
        .next { s with out := .judgement false (some (if k = .ack then .ackWrongKind else .wrongKind)) }) ∧
      (tagToKind f.tag = some k → payloadValid k f.value x c = true → exec (.accept (some f) k x c) s =
        .next { s with out := .judgement true none }) ∧
      (tagToKind f.tag = some k → payloadValid k f.value x c = false →
        (k = .quantity → exec (.accept (some f) k x c) s =
          .next { s with out := .judgement false (some .qtyOverflow) }) ∧
        (k = .checksum → exec (.accept (some f) k x c) s =
          .next { s with out := .judgement false (some .csumMismatch) }) ∧
        (k = .terminator → exec (.accept (some f) k x c) s =
          .next { s with out := .judgement false (some .badTerminator) }) ∧
        (k = .ack → exec (.accept (some f) k x c) s =
          .next { s with out := .judgement false (some .ackMismatch) }))

/-! ## Checksum Engine -/

/-- The checksum under the default CRC_PARAMS is the bit-serial register of R94. -/
def Obligations.ChecksumIsTheBitSerialRegister : Prop :=
  ∀ w : Word, checksum Config.crcDefault w = crcSerial w 32 0xFFFF#16

/-- The laws of R95: affinity for every CRC_PARAMS, the condition for equal checksums, and, with the default parameters,
that flipping any one or any two bits of the word changes the checksum. -/
def Obligations.ChecksumIsAffineAndSeesTwoBitErrors : Prop :=
  (∀ (p : CrcParams) (a b : Word), checksum p (a ^^^ b) = checksum p a ^^^ checksum p b ^^^ checksum p 0) ∧
  (∀ (p : CrcParams) (a b : Word), checksum p a = checksum p b ↔ checksum p (a ^^^ b) = checksum p 0) ∧
  (∀ (w : Word) (i : Nat), i < 32 →
    checksum Config.crcDefault (w ^^^ BitVec.twoPow 32 i) ≠ checksum Config.crcDefault w) ∧
  ∀ (w : Word) (i j : Nat), i < 32 → j < 32 → i ≠ j →
    checksum Config.crcDefault (w ^^^ BitVec.twoPow 32 i ^^^ BitVec.twoPow 32 j) ≠ checksum Config.crcDefault w

/-- The collisions of R97, and that a Receiver that gets DATA 0x12354659 and then CSUM 0x30EC accepts and stores that
word. -/
def Obligations.UndetectedCorruptionIsStored : Prop :=
  checksum Config.crcDefault 0x12345678 = 0x30EC ∧ checksum Config.crcDefault 0x12354659 = 0x30EC ∧
  checksum Config.crcDefault 0x00001021 = 0xB3F0 ∧ checksum Config.crcDefault 0x00010000 = 0xB3F0 ∧
  ∀ s : State, s.role = .receiver → s.phase = .pData → s.ustep = .uRx → s.idx.toNat < 64 →
    s.params.crc = Config.crcDefault →
    ∃ t u, exec (.data 0x12354659) s = .next t ∧ exec (.csum 0x30EC) t = .next u ∧
      u.msgWord s.idx.toNat = 0x12354659 ∧ u.ackok = true

/-- checksum and crc_update complete in every state, under the engine's CRC_PARAMS whatever they are, and change nothing
else: a byte, reversed if refin, enters at the top and eight shifts follow, each with the polynomial where bit 15 is
set before it (R92); the checksum takes the four bytes most significant first (R90, R91), and finish reverses if refout
and adds xorout (R92). -/
def Obligations.ChecksumOperationsComplete : Prop :=
  ∀ (s : State) (w : Word) (c : Crc) (b : Byte),
    (∃ x, exec (.crcUpdate c b) s = .next { s with out := .crc x } ∧
      x = (fun r : Crc => if 2 ^ 15 ≤ r.toNat then (r <<< 1) ^^^ s.params.crc.poly else r <<< 1)^[8]
        (c ^^^ ((if s.params.crc.refin then b.reverse else b).setWidth 16 <<< 8))) ∧
    ∃ x y, exec (.checksum w) s = .next { s with out := .crc x } ∧
      x = (if s.params.crc.refout then y.reverse else y) ^^^ s.params.crc.xorout ∧
      y = crcUpdate s.params.crc
        (crcUpdate s.params.crc
          (crcUpdate s.params.crc
            (crcUpdate s.params.crc s.params.crc.init (w.extractLsb' 24 8)) (w.extractLsb' 16 8))
          (w.extractLsb' 8 8))
        (w.extractLsb' 0 8)

/-! ## Acknowledgment helpers -/

/-- The laws of R103. -/
def Obligations.AcknowledgmentLaws : Prop :=
  (∀ t : Task, validateAck (encodeAck t true) t = true) ∧
  (∀ t t' : Task, t' ≠ t → validateAck (encodeAck t true) t' = false) ∧
  (∀ t t' : Task, validateAck (encodeAck t false) t' = false) ∧
  (∀ (a : AckValue) (e : Task), decodeStatus a = false → validateAck a e = false) ∧
  (∀ (t t' : Task) (b b' : Bool), encodeAck t b = encodeAck t' b' → t = t' ∧ b = b') ∧
  ∀ a : AckValue, encodeAck (a.extractLsb' 0 12) (a.getLsbD 12) = a

/-- encodeAck, decodeStatus and validateAck complete in every state with the values of R100, R101 and R102: exactly one
of the 8192 acknowledgment values validates for a given task. -/
def Obligations.AcknowledgmentOperationsComplete : Prop :=
  ∀ (s : State) (t : Task) (b : Bool) (a : AckValue),
    (∃ x : AckValue, exec (.encodeAck t b) s = .next { s with out := .ack x } ∧
      x.toNat = (if b then 0x1000 else 0) + t.toNat) ∧
    exec (.decodeStatus a) s = .next { s with out := .truth (decide (0x1000 ≤ a.toNat)) } ∧
    exec (.validateAck a t) s = .next { s with out := .truth (decide (a.toNat = 0x1000 + t.toNat)) }

/-! ## Host commands -/

/-- SEND acceptance (R126): every working register is written and the Sender starts in P_TASK; with OP_QTY > 64 it
fails at once in P_FAIL, where USTEP is U_TX by the model's reading of R126 and R33 (log 12); a host write of the code
1, which is the two low bits of what is written (R11; log 20), is that, with the action cmd(SEND). What the ghost cause
is after an acceptance that does not fail is the model's (log 10) and left open here. -/
def Obligations.SendIsAccepted : Prop :=
  (∀ (s s' : State) (v : Word), takeHost s = (.write 0 v, s') → v.toNat % 4 = 1 →
    step s = exec .send { s' with trace := s'.trace ++ [.cmd 1] }) ∧
  ∀ s : State, s.statusBusy = false →
    (s.opQty.toNat ≤ 64 → ∃ c, exec .send s = .next { s with
      statusDone := false, statusOk := false, statusBusy := true, role := .sender, t := s.opTask, q := s.opQty
      idx := 0, att := 0, dw := 0, crc := 0, rxv := false, rxtag := 0, rxval := 0, ackok := false, pr := 0, pi := 0
      phase := .pTask, ustep := .uTx, cause := c }) ∧
    (64 < s.opQty.toNat → exec .send s = .next { s with
      statusDone := false, statusOk := false, statusBusy := true, role := .sender, t := s.opTask, q := s.opQty
      idx := 0, att := 0, dw := 0, crc := 0, rxv := false, rxtag := 0, rxval := 0, ackok := false, pr := 0, pi := 0
      phase := .pFail, ustep := .uTx, cause := some .operandRange })

/-- RECEIVE acceptance (R151): every working register is written and the Receiver waits in P_TASK; a host write of the
code 2, which is the two low bits of what is written (R11; log 20), is that, with the action cmd(RECEIVE). The ghost
cause is left open (log 10). -/
def Obligations.ReceiveIsAccepted : Prop :=
  (∀ (s s' : State) (v : Word), takeHost s = (.write 0 v, s') → v.toNat % 4 = 2 →
    step s = exec .receive { s' with trace := s'.trace ++ [.cmd 2] }) ∧
  ∀ s : State, s.statusBusy = false → ∃ c, exec .receive s = .next { s with
    statusDone := false, statusOk := false, statusBusy := true, role := .receiver, t := 0xBAD, q := 0
    idx := 0, att := 0, dw := 0, crc := 0, rxv := false, rxtag := 0, rxval := 0, ackok := false, pr := 0, pi := 0
    phase := .pTask, ustep := .uRx, cause := c }

/-- The ignored CMD writes (R12, R72): NOP and the reserved code at any time, SEND and RECEIVE while busy. Through the
host port the code is the two low bits of what is written (R11; log 20), and the write leaves its action in the ghost
trace (log 23) and nothing else. -/
def Obligations.IgnoredCommandsChangeNothing : Prop :=
  (∀ s : State, exec .nop s = .next s ∧ exec .reserved3 s = .next s) ∧
  (∀ s : State, s.statusBusy = true → exec .send s = .next s ∧ exec .receive s = .next s) ∧
  ∀ (s s' : State) (v : Word), takeHost s = (.write 0 v, s') →
    s.statusBusy = true ∨ v.toNat % 4 = 0 ∨ v.toNat % 4 = 3 →
    step s = .next { s' with trace := s'.trace ++ [.cmd (v.setWidth 2)] }

/-! ## Frames as the engine takes them -/

/-- A Receiver at the wait for a frame takes it (R154, R156, R158, R164): each instruction where it is the one awaited. -/
def Obligations.ReceiverTakesAwaitedFrames : Prop :=
  ∀ s : State, s.role = .receiver → s.ustep = .uRx →
    (s.phase = .pTask → ∀ x : Task, exec (.task x) s = .next { s with t := x, ackok := true, ustep := .uTxa }) ∧
    (s.phase = .pQty → ∀ n : BitVec 14, n.toNat ≤ 64 →
      exec (.qty n) s = .next { s with q := n.setWidth 7, ackok := true, ustep := .uTxa }) ∧
    (s.phase = .pQty → ∀ n : BitVec 14, 64 < n.toNat →
      exec (.qty n) s = .next { s with ackok := false, ustep := .uTxa, cause := some .qtyOverflow }) ∧
    (s.phase = .pData → ∀ w : Word,
      exec (.data w) s = .next { s with dw := w, crc := checksum s.params.crc w, ustep := .uRxc }) ∧
    (s.phase = .pTerm → exec .term s = .next { s with ackok := true, ustep := .uTxa })

/-- A Receiver at U_RXC (R160): a Checksum frame equal to CRC stores DW in MSGBUF[IDX] and in no other word; any other
Checksum frame is a failure and stores nothing. -/
def Obligations.ReceiverStoresTheCheckedWord : Prop :=
  ∀ (s : State) (c : Crc), s.role = .receiver → s.phase = .pData → s.ustep = .uRxc → s.idx.toNat < 64 →
    (c = s.crc → ∃ m, exec (.csum c) s = .next { s with msgbuf := m, ackok := true, ustep := .uTxa } ∧
      ∀ i : Nat, ({ s with msgbuf := m } : State).msgWord i = if i = s.idx.toNat then s.dw else s.msgWord i) ∧
    (c ≠ s.crc → exec (.csum c) s =
      .next { s with ackok := false, ustep := .uTxa, cause := some .csumMismatch })

/-- A Sender at its wait takes an acknowledgment that echoes T (R136): the next phase, no attempt made in it yet. -/
def Obligations.SenderAdvancesOnItsAcknowledgment : Prop :=
  ∀ s : State, s.role = .sender → s.ustep = .uRx →
    (s.phase = .pTask → exec (.ack s.t) s = .next { s with phase := .pQty, att := 0, ustep := .uTx }) ∧
    (s.phase = .pQty → 0 < s.q.toNat →
      exec (.ack s.t) s = .next { s with phase := .pData, idx := 0, att := 0, ustep := .uTx }) ∧
    (s.phase = .pQty → s.q = 0 → exec (.ack s.t) s = .next { s with phase := .pTerm, att := 0, ustep := .uTx }) ∧
    (s.phase = .pData → s.idx.toNat + 1 < s.q.toNat →
      exec (.ack s.t) s = .next { s with idx := s.idx + 1, att := 0, ustep := .uTx }) ∧
    (s.phase = .pData → s.idx.toNat + 1 = s.q.toNat →
      exec (.ack s.t) s = .next { s with phase := .pTerm, att := 0, ustep := .uTx }) ∧
    (s.phase = .pTerm → exec (.ack s.t) s = .next { s with phase := .pDone, att := 0, ustep := .uTx })

/-- A negative acknowledgment, whatever it echoes, and a positive one that echoes another task are one failed attempt of
the Sender (R137, R138, R139). -/
def Obligations.MismatchedAcknowledgmentIsAFailedAttempt : Prop :=
  ∀ (s : State) (e : Task) (i : Instr), s.role = .sender → activePhase s.phase = true → s.ustep = .uRx →
    i = .nack e ∨ (i = .ack e ∧ e ≠ s.t) →
    (s.att.toNat < 5 → exec i s = .next { s with
      trace := s.trace ++ [.wait s.params.tRetry], ustep := .uTx, cause := some .ackMismatch }) ∧
    (s.att.toNat = 5 → exec i s = .next { s with phase := .pFail, cause := some .retryExhausted })

/-- A frame of another kind than the awaited one fails the wait: a Receiver's (R168, R182) or a Sender's attempt (R137,
R180, R181). -/
def Obligations.FrameOfAnotherKindFailsTheWait : Prop :=
  ∀ (s : State) (i : Instr) (k k' : Kind), frameKind i = some k' → expected s.role s.phase s.ustep = some k → k' ≠ k →
    (s.role = .receiver →
      exec i s = .next { s with ackok := false, ustep := .uTxa, cause := some .wrongKind }) ∧
    (s.role = .sender → s.att.toNat < 5 → exec i s = .next { s with
      trace := s.trace ++ [.wait s.params.tRetry], ustep := .uTx, cause := some .ackWrongKind }) ∧
    (s.role = .sender → s.att.toNat = 5 →
      exec i s = .next { s with phase := .pFail, cause := some .retryExhausted })

/-- A frame is no event for an engine that awaits none (R179; the meaning of a frame there is the model's, log 8). -/
def Obligations.UnawaitedFramesChangeNothing : Prop :=
  ∀ (s : State) (i : Instr), i.format = .frame → s.awaits = false → exec i s = .next s

/-! ## The sequencer -/

/-- The Sender's U_TX (R128 to R132): the frame of the phase, then the inter-frame delay; in P_DATA the word is read from
MSGBUF[IDX] into DW. -/
def Obligations.SenderTransmitsThePhasesFrame : Prop :=
  ∀ s s' : State, takeHost s = (.quiet, s') → s.role = .sender → s.ustep = .uTx →
    (s.phase = .pTask → step s = .next { s' with
      trace := s'.trace ++ [.tx (s.t.setWidth 32) 12, .wait s.params.tFrame], att := s.att + 1, ustep := .uRx }) ∧
    (s.phase = .pQty → step s = .next { s' with
      trace := s'.trace ++ [.tx (s.q.setWidth 32) 14, .wait s.params.tFrame], att := s.att + 1, ustep := .uRx }) ∧
    (s.phase = .pData → s.idx.toNat < 64 → step s = .next { s' with
      trace := s'.trace ++ [.tx (s.msgWord s.idx.toNat) 32, .wait s.params.tFrame]
      dw := s.msgWord s.idx.toNat, att := s.att + 1, ustep := .uTxc }) ∧
    (s.phase = .pTerm → step s = .next { s' with
      trace := s'.trace ++ [.tx 0x00000E2D 15, .wait s.params.tFrame], att := s.att + 1, ustep := .uRx })

/-- The Sender's U_TXC (R133), and the unit it ends: U_TX and U_TXC of P_DATA one after the other transmit the word and
its checksum with nothing between them but the inter-frame delay of the first. -/
def Obligations.SenderTransmitsTheChecksum : Prop :=
  (∀ s s' : State, takeHost s = (.quiet, s') → s.role = .sender → s.phase = .pData → s.ustep = .uTxc →
    step s = .next { s' with
      trace := s'.trace ++ [.tx ((checksum s.params.crc s.dw).setWidth 32) 16, .wait s.params.tFrame]
      crc := checksum s.params.crc s.dw, ustep := .uRx }) ∧
  ∀ s s' s'' : State, takeHost s = (.quiet, s') → takeHost s' = (.quiet, s'') → s.role = .sender →
    s.phase = .pData → s.ustep = .uTx → s.idx.toNat < 64 → ∃ u, step s = .next u ∧ step u = .next { s'' with
      trace := s.trace ++ [.tx (s.msgWord s.idx.toNat) 32, .wait s.params.tFrame,
        .tx ((checksum s.params.crc (s.msgWord s.idx.toNat)).setWidth 32) 16, .wait s.params.tFrame]
      dw := s.msgWord s.idx.toNat, crc := checksum s.params.crc (s.msgWord s.idx.toNat)
      att := s.att + 1, ustep := .uRx }

/-- The Sender's U_RX (R135): one RECV; a validating acknowledgment advances, anything else is a retry after T_RETRY or,
at the fifth attempt, the failure of the SEND. -/
def Obligations.SenderWaitsAndJudges : Prop :=
  ∀ (s s' s'' : State) (r : Option Frame), takeHost s = (.quiet, s') → s.role = .sender →
    activePhase s.phase = true → s.ustep = .uRx → recv s' = (r, s'') →
    ((∃ f, r = some f ∧ f.tag = 13 ∧ f.value.toNat % 2 ^ 13 = 0x1000 + s.t.toNat) → step s = .next { s'' with
      phase := (nextPhase s.phase s.idx s.q).1, idx := (nextPhase s.phase s.idx s.q).2, att := 0, ustep := .uTx }) ∧
    ((¬∃ f, r = some f ∧ f.tag = 13 ∧ f.value.toNat % 2 ^ 13 = 0x1000 + s.t.toNat) → s.att.toNat < 5 →
      ∃ c, (c = .ackMiss ∨ c = .ackWrongKind ∨ c = .ackMismatch) ∧ step s = .next { s'' with
        trace := s''.trace ++ [.wait s.params.tRetry], ustep := .uTx, cause := some c }) ∧
    ((¬∃ f, r = some f ∧ f.tag = 13 ∧ f.value.toNat % 2 ^ 13 = 0x1000 + s.t.toNat) → s.att.toNat = 5 →
      step s = .next { s'' with phase := .pFail, cause := some .retryExhausted })

/-- The Receiver in P_TASK (R154). -/
def Obligations.ReceiverWaitsForTheTask : Prop :=
  ∀ (s s' s'' : State) (r : Option Frame), takeHost s = (.quiet, s') → s.role = .receiver → s.phase = .pTask →
    s.ustep = .uRx → recv s' = (r, s'') →
    (∀ f, r = some f → f.tag = 12 →
      step s = .next { s'' with t := f.value.setWidth 12, ackok := true, ustep := .uTxa }) ∧
    ((∀ f, r = some f → f.tag ≠ 12) →
      ∃ c, (c = .miss ∨ c = .violation ∨ c = .wrongKind) ∧
        step s = .next { s'' with ackok := false, ustep := .uTxa, cause := some c })

/-- The Receiver in P_QTY (R156). -/
def Obligations.ReceiverWaitsForTheQuantity : Prop :=
  ∀ (s s' s'' : State) (r : Option Frame), takeHost s = (.quiet, s') → s.role = .receiver → s.phase = .pQty →
    s.ustep = .uRx → recv s' = (r, s'') →
    (∀ f, r = some f → f.tag = 14 → f.value.toNat % 2 ^ 14 ≤ 64 →
      step s = .next { s'' with q := f.value.setWidth 7, ackok := true, ustep := .uTxa }) ∧
    (∀ f, r = some f → f.tag = 14 → 64 < f.value.toNat % 2 ^ 14 →
      step s = .next { s'' with ackok := false, ustep := .uTxa, cause := some .qtyOverflow }) ∧
    ((∀ f, r = some f → f.tag ≠ 14) →
      ∃ c, (c = .miss ∨ c = .violation ∨ c = .wrongKind) ∧
        step s = .next { s'' with ackok := false, ustep := .uTxa, cause := some c })

/-- The Receiver in P_DATA, U_RX (R158). -/
def Obligations.ReceiverWaitsForTheWord : Prop :=
  ∀ (s s' s'' : State) (r : Option Frame), takeHost s = (.quiet, s') → s.role = .receiver → s.phase = .pData →
    s.ustep = .uRx → recv s' = (r, s'') →
    (∀ f, r = some f → f.tag = 32 →
      step s = .next { s'' with dw := f.value, crc := checksum s.params.crc f.value, ustep := .uRxc }) ∧
    ((∀ f, r = some f → f.tag ≠ 32) →
      ∃ c, (c = .miss ∨ c = .violation ∨ c = .wrongKind) ∧
        step s = .next { s'' with ackok := false, ustep := .uTxa, cause := some c })

/-- The Receiver in P_DATA, U_RXC (R160): the word is stored only after the comparison succeeds. -/
def Obligations.ReceiverWaitsForTheChecksum : Prop :=
  ∀ (s s' s'' : State) (r : Option Frame), takeHost s = (.quiet, s') → s.role = .receiver → s.phase = .pData →
    s.ustep = .uRxc → s.idx.toNat < 64 → recv s' = (r, s'') →
    (∀ f, r = some f → f.tag = 16 → f.value.toNat % 2 ^ 16 = s.crc.toNat →
      ∃ m, step s = .next { s'' with msgbuf := m, ackok := true, ustep := .uTxa } ∧
        ∀ i : Nat, ({ s'' with msgbuf := m } : State).msgWord i = if i = s.idx.toNat then s.dw else s.msgWord i) ∧
    (∀ f, r = some f → f.tag = 16 → f.value.toNat % 2 ^ 16 ≠ s.crc.toNat →
      step s = .next { s'' with ackok := false, ustep := .uTxa, cause := some .csumMismatch }) ∧
    ((∀ f, r = some f → f.tag ≠ 16) →
      ∃ c, (c = .miss ∨ c = .violation ∨ c = .wrongKind) ∧
        step s = .next { s'' with ackok := false, ustep := .uTxa, cause := some c })

/-- The Receiver in P_TERM (R164). -/
def Obligations.ReceiverWaitsForTheTerminator : Prop :=
  ∀ (s s' s'' : State) (r : Option Frame), takeHost s = (.quiet, s') → s.role = .receiver → s.phase = .pTerm →
    s.ustep = .uRx → recv s' = (r, s'') →
    (∀ f, r = some f → f.tag = 15 → f.value.toNat % 2 ^ 15 = 0xE2D →
      step s = .next { s'' with ackok := true, ustep := .uTxa }) ∧
    (∀ f, r = some f → f.tag = 15 → f.value.toNat % 2 ^ 15 ≠ 0xE2D →
      step s = .next { s'' with ackok := false, ustep := .uTxa, cause := some .badTerminator }) ∧
    ((∀ f, r = some f → f.tag ≠ 15) →
      ∃ c, (c = .miss ∨ c = .violation ∨ c = .wrongKind) ∧
        step s = .next { s'' with ackok := false, ustep := .uTxa, cause := some c })

/-- The Receiver's U_TXA (R166): the positive acknowledgment 0x1000 + T and the next phase, or the negative one and
P_FAIL; in P_TASK the negative one is 0x0BAD in every state the invariant holds of. -/
def Obligations.ReceiverAcknowledges : Prop :=
  ∀ s s' : State, takeHost s = (.quiet, s') → s.role = .receiver → activePhase s.phase = true → s.ustep = .uTxa →
    (s.ackok = true → step s = .next { s' with
      trace := s'.trace ++ [.tx (0x1000 + s.t.setWidth 32) 13, .wait s.params.tFrame]
      phase := (nextPhase s.phase s.idx s.q).1, idx := (nextPhase s.phase s.idx s.q).2
      ustep := .uRx, ackok := false }) ∧
    (s.ackok = false → step s = .next { s' with
      trace := s'.trace ++ [.tx (s.t.setWidth 32) 13, .wait s.params.tFrame], phase := .pFail }) ∧
    (s.ackok = false → s.phase = .pTask → Inv s → step s = .next { s' with
      trace := s'.trace ++ [.tx 0xBAD 13, .wait s.params.tFrame], phase := .pFail })

/-- The completion step (R140, R170): DONE and OK, BUSY cleared, idle; a successful RECEIVE alone writes its results. -/
def Obligations.CompletionReportsTheResult : Prop :=
  ∀ s s' : State, takeHost s = (.quiet, s') →
    (s.role = .sender → s.phase = .pDone → step s = .next { s' with
      statusOk := true, statusDone := true, statusBusy := false, role := .idle, trace := s'.trace ++ [.done true] }) ∧
    (s.role = .receiver → s.phase = .pDone → step s = .next { s' with
      resTask := s.t, resQty := s.q, statusOk := true, statusDone := true, statusBusy := false, role := .idle
      trace := s'.trace ++ [.done true] }) ∧
    (s.role ≠ .idle → s.phase = .pFail → step s = .next { s' with
      statusOk := false, statusDone := true, statusBusy := false, role := .idle, trace := s'.trace ++ [.done false] })

/-- Phase succession (R36), and that a phase is left only forward to its successor or to P_FAIL. -/
def Obligations.PhasesOnlyMoveForward : Prop :=
  (∀ i q : Count,
    nextPhase .pTask i q = (.pQty, i) ∧
    (0 < q.toNat → nextPhase .pQty i q = (.pData, 0)) ∧
    (q = 0 → nextPhase .pQty i q = (.pTerm, i)) ∧
    (i.toNat + 1 < q.toNat → nextPhase .pData i q = (.pData, i + 1)) ∧
    (i.toNat + 1 = q.toNat → nextPhase .pData i q = (.pTerm, i)) ∧
    nextPhase .pTerm i q = (.pDone, i)) ∧
  ∀ s t : State, (takeHost s).1 = .quiet → step s = .next t → activePhase s.phase = true →
    (t.phase = s.phase ∧ t.idx = s.idx) ∨ (t.phase, t.idx) = nextPhase s.phase s.idx s.q ∨
      (t.phase = .pFail ∧ t.idx = s.idx)

/-- Reset (R200, R201) from any state, an exchange in progress included: every register as R32 says, no action on the
transport port, no completion for an abandoned command; and an idle engine with a silent host does nothing (R119,
R191). The model's own inputs and counters stay as log 16 says. -/
def Obligations.ResetAbandonsTheExchange : Prop :=
  (∀ s s' : State, takeHost s = (.quiet, s') → s.role = .idle → step s = .next s') ∧
  ∀ (s : State) (rest : List HostEvent), s.host = .reset :: rest → step s = .next
    { statusBusy := false, statusDone := false, statusOk := false, opTask := 0, opQty := 0, resTask := 0, resQty := 0
      msgbuf := [], role := .idle, phase := .pTask, idx := 0, ustep := .uTx, att := 0, t := 0, q := 0, dw := 0, crc := 0
      rxv := false, rxtag := 0, rxval := 0, ackok := false, pr := 0, pi := 0, cause := none, trace := []
      answers := s.answers, polls := s.polls, host := rest, hostRd := s.hostRd, out := s.out, params := s.params
      resets := s.resets + 1 }

/-- The registers after reset (R32). MSGBUF is unspecified there and nothing is said of it. -/
def Obligations.RegistersAfterReset : Prop :=
  State.reset.statusWord = 0 ∧ State.reset.opTask = 0 ∧ State.reset.opQty = 0 ∧ State.reset.resTask = 0 ∧
  State.reset.resQty = 0 ∧ State.reset.role.code = 0 ∧ State.reset.phase.code = 0 ∧ State.reset.ustep.code = 0 ∧
  State.reset.idx = 0 ∧ State.reset.att = 0 ∧ State.reset.t = 0 ∧ State.reset.q = 0 ∧ State.reset.dw = 0 ∧
  State.reset.crc = 0 ∧ State.reset.rxv = false ∧ State.reset.rxtag = 0 ∧ State.reset.rxval = 0 ∧
  State.reset.ackok = false ∧ State.reset.pr = 0 ∧ State.reset.pi = 0 ∧ State.reset.cause = none ∧
  State.reset.trace = [] ∧ State.reset.readReg 0 = 0

/-! ## The host port -/

/-- Host reads (R11, R44): each register zero extended, CMD and the unimplemented numbers as 0, a word of MSGBUF whole,
and no register changes, so that a second read answers the same. During a RECEIVE a read of MSGBUF is the same read
(log 6). The port's answer stands on the model's `hostRd` (log 26). -/
def Obligations.HostReadsRegisters : Prop :=
  ∀ (s s' : State) (n : Nat), takeHost s = (.read n, s') →
    ∃ v : Word, step s = .next { s' with hostRd := v } ∧
      (n = 0 → v = 0) ∧
      (n = 1 → v.toNat = s.statusBusy.toNat + 2 * s.statusDone.toNat + 4 * s.statusOk.toNat) ∧
      (n = 2 → v = s.opTask.setWidth 32) ∧ (n = 3 → v = s.opQty.setWidth 32) ∧
      (n = 4 → v = s.resTask.setWidth 32) ∧ (n = 5 → v = s.resQty.setWidth 32) ∧
      (64 ≤ n → n < 128 → v = s.msgWord (n - 64)) ∧
      (6 ≤ n ∧ n < 64 ∨ 128 ≤ n → v = 0) ∧
      ∀ s'', takeHost s' = (.read n, s'') → step { s' with hostRd := v } = .next { s'' with hostRd := v }

/-- Host writes (R11, R27): OP_TASK and OP_QTY take the low bits, the read-only and unimplemented numbers ignore the
write. -/
def Obligations.HostWritesRegisters : Prop :=
  ∀ (s s' : State) (n : Nat) (v : Word), takeHost s = (.write n v, s') →
    (n = 2 → step s = .next { s' with opTask := v.setWidth 12 }) ∧
    (n = 3 → step s = .next { s' with opQty := v.setWidth 7 }) ∧
    (n = 1 ∨ n = 4 ∨ n = 5 ∨ 6 ≤ n ∧ n < 64 ∨ 128 ≤ n → step s = .next s')

/-- A host write to MSGBUF outside a RECEIVE writes that word and no other (R11, R34, R44, R214); during a RECEIVE the
spec gives it no meaning (R34) and the model refuses it by name (log 7). -/
def Obligations.HostWritesMsgbuf : Prop :=
  ∀ (s s' : State) (n : Nat) (v : Word), takeHost s = (.write n v, s') → 64 ≤ n → n < 128 →
    (s.role ≠ .receiver → ∃ m, step s = .next { s' with msgbuf := m } ∧
      ∀ i : Nat, ({ s' with msgbuf := m } : State).msgWord i = if i = n - 64 then v else s.msgWord i) ∧
    (s.role = .receiver → step s = .refused .msgbufWriteDuringReceive)

/-! ## Invariants and whole-machine rules -/

/-- The invariant holds after reset. -/
def Obligations.InvariantHoldsAfterReset : Prop := Inv State.reset

/-- Every step keeps the invariant (R33 and the rules cited at the fields of `Inv`), whatever the host and the adapter
do. -/
def Obligations.EveryStepKeepsTheInvariant : Prop :=
  ∀ s t : State, Inv s → step s = .next t → Inv t

/-- Every instruction keeps the invariant. -/
def Obligations.EveryInstructionKeepsTheInvariant : Prop :=
  ∀ (i : Instr) (s t : State), Inv s → exec i s = .next t → Inv t

/-- From a state of the invariant no step faults, and none is refused but a host write to MSGBUF during a RECEIVE (R43,
R175, R34). -/
def Obligations.EveryStepIsSafe : Prop := ∀ s : State, Inv s → safeStep s

/-- STATUS.BUSY is cleared, and ROLE left for IDLE, only by reset or by the completion step, both together; the
completion sets DONE and sets OK exactly after P_DONE (R12, R13, R201). -/
def Obligations.BusyEndsOnlyByCompletionOrReset : Prop :=
  ∀ s t : State, step s = .next t →
    (s.statusBusy = true ∧ t.statusBusy = false) ∨ (s.role ≠ .idle ∧ t.role = .idle) →
    t.statusBusy = false ∧ t.role = .idle ∧
    ((takeHost s).1 = .reset ∨
      ((takeHost s).1 = .quiet ∧ s.role ≠ .idle ∧ t.statusDone = true ∧
        (s.phase = .pDone ∧ t.statusOk = true ∨ s.phase = .pFail ∧ t.statusOk = false)))

/-- RES_TASK and RES_QTY are written together, from T and Q, only in the completion step of a successful RECEIVE (R28),
or cleared by reset. -/
def Obligations.ResultsWrittenOnlyBySuccessfulReceive : Prop :=
  ∀ s t : State, step s = .next t → (takeHost s).1 ≠ .reset →
    (t.resTask = s.resTask ∧ t.resQty = s.resQty) ∨
    ((takeHost s).1 = .quiet ∧ s.role = .receiver ∧ s.phase = .pDone ∧ t.statusOk = true ∧ t.statusDone = true ∧
      t.resTask = s.t ∧ t.resQty = s.q)

/-- The engine writes MSGBUF only in a Receiver's U_RXC, only MSGBUF[IDX], only with DW, and then acknowledges (R41,
R42). -/
def Obligations.EngineWritesOnlyTheValidatedWord : Prop :=
  ∀ (s t : State) (i : Nat), (takeHost s).1 = .quiet → step s = .next t → t.msgWord i ≠ s.msgWord i →
    s.role = .receiver ∧ s.phase = .pData ∧ s.ustep = .uRxc ∧ i = s.idx.toNat ∧ t.msgWord i = s.dw ∧ t.ackok = true

/-- A step but reset appends its actions to the trace (R51), and every frame it transmits has one of the six tags and a
value below 2^tag (R69, R70). -/
def Obligations.TransmittedFramesFitTheirTag : Prop :=
  ∀ s t : State, step s = .next t → (takeHost s).1 ≠ .reset →
    ∃ as, t.trace = s.trace ++ as ∧ ∀ v w, .tx v w ∈ as →
      (w = 12 ∨ w = 13 ∨ w = 14 ∨ w = 15 ∨ w = 16 ∨ w = 32) ∧ v.toNat < 2 ^ w

/-- Host writes to OP_TASK and OP_QTY during an exchange have no effect on it (R27): the engine's step is the same
whatever they hold. -/
def Obligations.OperandsAreSampledOnce : Prop :=
  ∀ (s t : State) (x : Task) (y : Count), (takeHost s).1 = .quiet → step s = .next t →
    step { s with opTask := x, opQty := y } = .next { t with opTask := x, opQty := y }

/-- No behaviour depends on the ghost values (R35): with other ghost values a step ends the same way, in the same state
but for the ghost values. -/
def Obligations.GhostValuesAreInert : Prop :=
  ∀ (s : State) (c : Option Cause) (tr : List Action),
    (∀ t, step s = .next t → ∃ c' tr', step (s.withGhost c tr) = .next (t.withGhost c' tr')) ∧
    (∀ f, step s = .fault f → step (s.withGhost c tr) = .fault f) ∧
    ∀ r, step s = .refused r → step (s.withGhost c tr) = .refused r

/-! ## Whole exchanges -/

/-- Every exchange ends (R120): from every state of the invariant with a command in progress and a host that makes no
further access, whatever the adapter answers, the engine is idle with DONE set within 15 x 64 + 31 micro-steps. -/
def Obligations.EveryExchangeEnds : Prop :=
  ∀ s : State, Inv s → s.role ≠ .idle → s.host = [] →
    ∃ n t, n ≤ 15 * 64 + 31 ∧ runSteps n s = some t ∧ t.role = .idle ∧ t.statusDone = true

/-- Exhaustion (R139): a Sender at the start of a phase that hears no validating acknowledgment transmits the phase's
frame, in P_DATA the unit, exactly five times and fails. -/
def Obligations.SenderGivesUpAfterFiveAttempts : Prop :=
  ∀ s : State, s.role = .sender → activePhase s.phase = true → s.ustep = .uTx → s.att = 0 → s.idx.toNat < 64 →
    s.host = [] → (∀ f ∈ s.answers, neverAcks s.t f) →
    5 * (s.params.pollRounds * s.params.pollIters) ≤ s.answers.length →
    ∃ t, runSteps (if s.phase = .pData then 15 else 10) s = some t ∧ t.phase = .pFail ∧ t.idx = s.idx ∧
      t.cause = some .retryExhausted ∧
      (∃ as, t.trace = s.trace ++ as ∧ txFrames as = (List.replicate 5
        (match s.phase with
          | .pTask => [{ value := s.t.setWidth 32, tag := 12 }]
          | .pQty => [{ value := s.q.setWidth 32, tag := 14 }]
          | .pData => unitFrames s.params.crc (s.msgWord s.idx.toNat)
          | .pTerm => [{ value := 0xE2D, tag := 15 }]
          | .pDone => []
          | .pFail => [])).flatten) ∧
      ∃ u, step t = .next u ∧ u.role = .idle ∧ u.statusDone = true ∧ u.statusOk = false

/-- The round trip (R143 under the channel of R50, log 25): over the lossless loopback a SEND of OP_QTY <= 64 words
against a RECEIVE, with one CRC_PARAMS, succeeds at both ends under every schedule of the two ends, and the Receiver
holds the Sender's message. A SEND of more words transmits nothing: both ends fail, the Receiver because its window
closes, and it answers with the bad-task sentinel (program P12). -/
def Obligations.LosslessLoopbackDeliversTheMessage : Prop :=
  (∀ (a b : State) (sched : List Bool), Inv a → Inv b → a.role = .idle → b.role = .idle → a.host = [] → b.host = [] →
    64 < a.opQty.toNat → 4 ≤ sched.length →
    ∃ l, linkRun sched { left := acceptSend a, right := acceptReceive b, toRight := [], toLeft := [] } = l ∧
      l.left.role = .idle ∧ l.right.role = .idle ∧ l.left.statusDone = true ∧ l.right.statusDone = true ∧
      l.left.statusOk = false ∧ l.right.statusOk = false ∧ l.toRight = [] ∧ l.right.cause = some .miss ∧
      l.right.msgbuf = b.msgbuf ∧ l.toLeft = [{ value := 0xBAD, tag := 13 }]) ∧
  ∀ (a b : State) (sched : List Bool), Inv a → Inv b → a.role = .idle → b.role = .idle → a.host = [] → b.host = [] →
    a.opQty.toNat ≤ 64 → a.params.crc = b.params.crc → 6 * a.opQty.toNat + 14 ≤ sched.length →
    ∃ l, linkRun sched { left := acceptSend a, right := acceptReceive b, toRight := [], toLeft := [] } = l ∧
      l.left.role = .idle ∧ l.right.role = .idle ∧ l.left.statusDone = true ∧ l.right.statusDone = true ∧
      l.left.statusOk = true ∧ l.right.statusOk = true ∧
      l.right.resTask = a.opTask ∧ l.right.resQty = a.opQty ∧
      ∀ i : Nat, i < a.opQty.toNat → l.right.msgWord i = a.msgWord i
end

