-- ==== Sys2Proof/Laws/State.lean ====
section
/-! SUPPORT. The field lemmas of the state's named updates: what each update leaves as it was, and what it writes. -/

namespace Sys2Proof.Machine

@[simp] theorem emit_statusBusy (s : State) (a : Action) : (s.emit a).statusBusy = s.statusBusy := rfl
@[simp] theorem emit_statusDone (s : State) (a : Action) : (s.emit a).statusDone = s.statusDone := rfl
@[simp] theorem emit_statusOk (s : State) (a : Action) : (s.emit a).statusOk = s.statusOk := rfl
@[simp] theorem emit_opTask (s : State) (a : Action) : (s.emit a).opTask = s.opTask := rfl
@[simp] theorem emit_opQty (s : State) (a : Action) : (s.emit a).opQty = s.opQty := rfl
@[simp] theorem emit_resTask (s : State) (a : Action) : (s.emit a).resTask = s.resTask := rfl
@[simp] theorem emit_resQty (s : State) (a : Action) : (s.emit a).resQty = s.resQty := rfl
@[simp] theorem emit_msgbuf (s : State) (a : Action) : (s.emit a).msgbuf = s.msgbuf := rfl
@[simp] theorem emit_role (s : State) (a : Action) : (s.emit a).role = s.role := rfl
@[simp] theorem emit_phase (s : State) (a : Action) : (s.emit a).phase = s.phase := rfl
@[simp] theorem emit_idx (s : State) (a : Action) : (s.emit a).idx = s.idx := rfl
@[simp] theorem emit_ustep (s : State) (a : Action) : (s.emit a).ustep = s.ustep := rfl
@[simp] theorem emit_att (s : State) (a : Action) : (s.emit a).att = s.att := rfl
@[simp] theorem emit_t (s : State) (a : Action) : (s.emit a).t = s.t := rfl
@[simp] theorem emit_q (s : State) (a : Action) : (s.emit a).q = s.q := rfl
@[simp] theorem emit_dw (s : State) (a : Action) : (s.emit a).dw = s.dw := rfl
@[simp] theorem emit_crc (s : State) (a : Action) : (s.emit a).crc = s.crc := rfl
@[simp] theorem emit_rxv (s : State) (a : Action) : (s.emit a).rxv = s.rxv := rfl
@[simp] theorem emit_rxtag (s : State) (a : Action) : (s.emit a).rxtag = s.rxtag := rfl
@[simp] theorem emit_rxval (s : State) (a : Action) : (s.emit a).rxval = s.rxval := rfl
@[simp] theorem emit_ackok (s : State) (a : Action) : (s.emit a).ackok = s.ackok := rfl
@[simp] theorem emit_pr (s : State) (a : Action) : (s.emit a).pr = s.pr := rfl
@[simp] theorem emit_pi (s : State) (a : Action) : (s.emit a).pi = s.pi := rfl
@[simp] theorem emit_cause (s : State) (a : Action) : (s.emit a).cause = s.cause := rfl
@[simp] theorem emit_answers (s : State) (a : Action) : (s.emit a).answers = s.answers := rfl
@[simp] theorem emit_polls (s : State) (a : Action) : (s.emit a).polls = s.polls := rfl
@[simp] theorem emit_host (s : State) (a : Action) : (s.emit a).host = s.host := rfl
@[simp] theorem emit_hostRd (s : State) (a : Action) : (s.emit a).hostRd = s.hostRd := rfl
@[simp] theorem emit_out (s : State) (a : Action) : (s.emit a).out = s.out := rfl
@[simp] theorem emit_params (s : State) (a : Action) : (s.emit a).params = s.params := rfl
@[simp] theorem emit_resets (s : State) (a : Action) : (s.emit a).resets = s.resets := rfl
@[simp] theorem emit_trace (s : State) (a : Action) : (s.emit a).trace = s.trace ++ [a] := rfl

@[simp] theorem setMsgWord_statusBusy (s : State) (i : Nat) (v : Word) : (s.setMsgWord i v).statusBusy = s.statusBusy := rfl
@[simp] theorem setMsgWord_statusDone (s : State) (i : Nat) (v : Word) : (s.setMsgWord i v).statusDone = s.statusDone := rfl
@[simp] theorem setMsgWord_statusOk (s : State) (i : Nat) (v : Word) : (s.setMsgWord i v).statusOk = s.statusOk := rfl
@[simp] theorem setMsgWord_opTask (s : State) (i : Nat) (v : Word) : (s.setMsgWord i v).opTask = s.opTask := rfl
@[simp] theorem setMsgWord_opQty (s : State) (i : Nat) (v : Word) : (s.setMsgWord i v).opQty = s.opQty := rfl
@[simp] theorem setMsgWord_resTask (s : State) (i : Nat) (v : Word) : (s.setMsgWord i v).resTask = s.resTask := rfl
@[simp] theorem setMsgWord_resQty (s : State) (i : Nat) (v : Word) : (s.setMsgWord i v).resQty = s.resQty := rfl
@[simp] theorem setMsgWord_role (s : State) (i : Nat) (v : Word) : (s.setMsgWord i v).role = s.role := rfl
@[simp] theorem setMsgWord_phase (s : State) (i : Nat) (v : Word) : (s.setMsgWord i v).phase = s.phase := rfl
@[simp] theorem setMsgWord_idx (s : State) (i : Nat) (v : Word) : (s.setMsgWord i v).idx = s.idx := rfl
@[simp] theorem setMsgWord_ustep (s : State) (i : Nat) (v : Word) : (s.setMsgWord i v).ustep = s.ustep := rfl
@[simp] theorem setMsgWord_att (s : State) (i : Nat) (v : Word) : (s.setMsgWord i v).att = s.att := rfl
@[simp] theorem setMsgWord_t (s : State) (i : Nat) (v : Word) : (s.setMsgWord i v).t = s.t := rfl
@[simp] theorem setMsgWord_q (s : State) (i : Nat) (v : Word) : (s.setMsgWord i v).q = s.q := rfl
@[simp] theorem setMsgWord_dw (s : State) (i : Nat) (v : Word) : (s.setMsgWord i v).dw = s.dw := rfl
@[simp] theorem setMsgWord_crc (s : State) (i : Nat) (v : Word) : (s.setMsgWord i v).crc = s.crc := rfl
@[simp] theorem setMsgWord_rxv (s : State) (i : Nat) (v : Word) : (s.setMsgWord i v).rxv = s.rxv := rfl
@[simp] theorem setMsgWord_rxtag (s : State) (i : Nat) (v : Word) : (s.setMsgWord i v).rxtag = s.rxtag := rfl
@[simp] theorem setMsgWord_rxval (s : State) (i : Nat) (v : Word) : (s.setMsgWord i v).rxval = s.rxval := rfl
@[simp] theorem setMsgWord_ackok (s : State) (i : Nat) (v : Word) : (s.setMsgWord i v).ackok = s.ackok := rfl
@[simp] theorem setMsgWord_pr (s : State) (i : Nat) (v : Word) : (s.setMsgWord i v).pr = s.pr := rfl
@[simp] theorem setMsgWord_pi (s : State) (i : Nat) (v : Word) : (s.setMsgWord i v).pi = s.pi := rfl
@[simp] theorem setMsgWord_cause (s : State) (i : Nat) (v : Word) : (s.setMsgWord i v).cause = s.cause := rfl
@[simp] theorem setMsgWord_trace (s : State) (i : Nat) (v : Word) : (s.setMsgWord i v).trace = s.trace := rfl
@[simp] theorem setMsgWord_answers (s : State) (i : Nat) (v : Word) : (s.setMsgWord i v).answers = s.answers := rfl
@[simp] theorem setMsgWord_polls (s : State) (i : Nat) (v : Word) : (s.setMsgWord i v).polls = s.polls := rfl
@[simp] theorem setMsgWord_host (s : State) (i : Nat) (v : Word) : (s.setMsgWord i v).host = s.host := rfl
@[simp] theorem setMsgWord_hostRd (s : State) (i : Nat) (v : Word) : (s.setMsgWord i v).hostRd = s.hostRd := rfl
@[simp] theorem setMsgWord_out (s : State) (i : Nat) (v : Word) : (s.setMsgWord i v).out = s.out := rfl
@[simp] theorem setMsgWord_params (s : State) (i : Nat) (v : Word) : (s.setMsgWord i v).params = s.params := rfl
@[simp] theorem setMsgWord_resets (s : State) (i : Nat) (v : Word) : (s.setMsgWord i v).resets = s.resets := rfl
@[simp] theorem setMsgWord_msgbuf (s : State) (i : Nat) (v : Word) : (s.setMsgWord i v).msgbuf = memSet s.msgbuf i v := rfl

@[simp] theorem showOut_statusBusy (s : State) (o : OpResult) : (s.showOut o).statusBusy = s.statusBusy := rfl
@[simp] theorem showOut_statusDone (s : State) (o : OpResult) : (s.showOut o).statusDone = s.statusDone := rfl
@[simp] theorem showOut_statusOk (s : State) (o : OpResult) : (s.showOut o).statusOk = s.statusOk := rfl
@[simp] theorem showOut_opTask (s : State) (o : OpResult) : (s.showOut o).opTask = s.opTask := rfl
@[simp] theorem showOut_opQty (s : State) (o : OpResult) : (s.showOut o).opQty = s.opQty := rfl
@[simp] theorem showOut_resTask (s : State) (o : OpResult) : (s.showOut o).resTask = s.resTask := rfl
@[simp] theorem showOut_resQty (s : State) (o : OpResult) : (s.showOut o).resQty = s.resQty := rfl
@[simp] theorem showOut_msgbuf (s : State) (o : OpResult) : (s.showOut o).msgbuf = s.msgbuf := rfl
@[simp] theorem showOut_role (s : State) (o : OpResult) : (s.showOut o).role = s.role := rfl
@[simp] theorem showOut_phase (s : State) (o : OpResult) : (s.showOut o).phase = s.phase := rfl
@[simp] theorem showOut_idx (s : State) (o : OpResult) : (s.showOut o).idx = s.idx := rfl
@[simp] theorem showOut_ustep (s : State) (o : OpResult) : (s.showOut o).ustep = s.ustep := rfl
@[simp] theorem showOut_att (s : State) (o : OpResult) : (s.showOut o).att = s.att := rfl
@[simp] theorem showOut_t (s : State) (o : OpResult) : (s.showOut o).t = s.t := rfl
@[simp] theorem showOut_q (s : State) (o : OpResult) : (s.showOut o).q = s.q := rfl
@[simp] theorem showOut_dw (s : State) (o : OpResult) : (s.showOut o).dw = s.dw := rfl
@[simp] theorem showOut_crc (s : State) (o : OpResult) : (s.showOut o).crc = s.crc := rfl
@[simp] theorem showOut_rxv (s : State) (o : OpResult) : (s.showOut o).rxv = s.rxv := rfl
@[simp] theorem showOut_rxtag (s : State) (o : OpResult) : (s.showOut o).rxtag = s.rxtag := rfl
@[simp] theorem showOut_rxval (s : State) (o : OpResult) : (s.showOut o).rxval = s.rxval := rfl
@[simp] theorem showOut_ackok (s : State) (o : OpResult) : (s.showOut o).ackok = s.ackok := rfl
@[simp] theorem showOut_pr (s : State) (o : OpResult) : (s.showOut o).pr = s.pr := rfl
@[simp] theorem showOut_pi (s : State) (o : OpResult) : (s.showOut o).pi = s.pi := rfl
@[simp] theorem showOut_cause (s : State) (o : OpResult) : (s.showOut o).cause = s.cause := rfl
@[simp] theorem showOut_trace (s : State) (o : OpResult) : (s.showOut o).trace = s.trace := rfl
@[simp] theorem showOut_answers (s : State) (o : OpResult) : (s.showOut o).answers = s.answers := rfl
@[simp] theorem showOut_polls (s : State) (o : OpResult) : (s.showOut o).polls = s.polls := rfl
@[simp] theorem showOut_host (s : State) (o : OpResult) : (s.showOut o).host = s.host := rfl
@[simp] theorem showOut_hostRd (s : State) (o : OpResult) : (s.showOut o).hostRd = s.hostRd := rfl
@[simp] theorem showOut_params (s : State) (o : OpResult) : (s.showOut o).params = s.params := rfl
@[simp] theorem showOut_resets (s : State) (o : OpResult) : (s.showOut o).resets = s.resets := rfl
@[simp] theorem showOut_out (s : State) (o : OpResult) : (s.showOut o).out = o := rfl

@[simp] theorem latch_statusBusy (r : Option Frame) (s : State) : (latch r s).statusBusy = s.statusBusy := by cases r <;> rfl
@[simp] theorem latch_statusDone (r : Option Frame) (s : State) : (latch r s).statusDone = s.statusDone := by cases r <;> rfl
@[simp] theorem latch_statusOk (r : Option Frame) (s : State) : (latch r s).statusOk = s.statusOk := by cases r <;> rfl
@[simp] theorem latch_opTask (r : Option Frame) (s : State) : (latch r s).opTask = s.opTask := by cases r <;> rfl
@[simp] theorem latch_opQty (r : Option Frame) (s : State) : (latch r s).opQty = s.opQty := by cases r <;> rfl
@[simp] theorem latch_resTask (r : Option Frame) (s : State) : (latch r s).resTask = s.resTask := by cases r <;> rfl
@[simp] theorem latch_resQty (r : Option Frame) (s : State) : (latch r s).resQty = s.resQty := by cases r <;> rfl
@[simp] theorem latch_msgbuf (r : Option Frame) (s : State) : (latch r s).msgbuf = s.msgbuf := by cases r <;> rfl
@[simp] theorem latch_role (r : Option Frame) (s : State) : (latch r s).role = s.role := by cases r <;> rfl
@[simp] theorem latch_phase (r : Option Frame) (s : State) : (latch r s).phase = s.phase := by cases r <;> rfl
@[simp] theorem latch_idx (r : Option Frame) (s : State) : (latch r s).idx = s.idx := by cases r <;> rfl
@[simp] theorem latch_ustep (r : Option Frame) (s : State) : (latch r s).ustep = s.ustep := by cases r <;> rfl
@[simp] theorem latch_att (r : Option Frame) (s : State) : (latch r s).att = s.att := by cases r <;> rfl
@[simp] theorem latch_t (r : Option Frame) (s : State) : (latch r s).t = s.t := by cases r <;> rfl
@[simp] theorem latch_q (r : Option Frame) (s : State) : (latch r s).q = s.q := by cases r <;> rfl
@[simp] theorem latch_dw (r : Option Frame) (s : State) : (latch r s).dw = s.dw := by cases r <;> rfl
@[simp] theorem latch_crc (r : Option Frame) (s : State) : (latch r s).crc = s.crc := by cases r <;> rfl
@[simp] theorem latch_ackok (r : Option Frame) (s : State) : (latch r s).ackok = s.ackok := by cases r <;> rfl
@[simp] theorem latch_pr (r : Option Frame) (s : State) : (latch r s).pr = s.pr := by cases r <;> rfl
@[simp] theorem latch_pi (r : Option Frame) (s : State) : (latch r s).pi = s.pi := by cases r <;> rfl
@[simp] theorem latch_cause (r : Option Frame) (s : State) : (latch r s).cause = s.cause := by cases r <;> rfl
@[simp] theorem latch_trace (r : Option Frame) (s : State) : (latch r s).trace = s.trace := by cases r <;> rfl
@[simp] theorem latch_answers (r : Option Frame) (s : State) : (latch r s).answers = s.answers := by cases r <;> rfl
@[simp] theorem latch_polls (r : Option Frame) (s : State) : (latch r s).polls = s.polls := by cases r <;> rfl
@[simp] theorem latch_host (r : Option Frame) (s : State) : (latch r s).host = s.host := by cases r <;> rfl
@[simp] theorem latch_hostRd (r : Option Frame) (s : State) : (latch r s).hostRd = s.hostRd := by cases r <;> rfl
@[simp] theorem latch_out (r : Option Frame) (s : State) : (latch r s).out = s.out := by cases r <;> rfl
@[simp] theorem latch_params (r : Option Frame) (s : State) : (latch r s).params = s.params := by cases r <;> rfl
@[simp] theorem latch_resets (r : Option Frame) (s : State) : (latch r s).resets = s.resets := by cases r <;> rfl
@[simp] theorem latch_rxv (r : Option Frame) (s : State) : (latch r s).rxv = r.isSome := by cases r <;> rfl
@[simp] theorem latch_rxtag (r : Option Frame) (s : State) : (latch r s).rxtag = (r.map Frame.tag).getD 0 := by
  cases r <;> rfl
@[simp] theorem latch_rxval (r : Option Frame) (s : State) : (latch r s).rxval = (r.map Frame.value).getD 0 := by
  cases r <;> rfl

/-- The transport primitives but the polls are lists of actions. -/
@[simp] theorem transmit_eq (v : Word) (w : Tag) (s : State) : transmit v w s = s.emit (.tx v w) := rfl
@[simp] theorem beginListening_eq (s : State) : beginListening s = s.emit .listen := rfl
@[simp] theorem waitUnits_eq (n : Nat) (s : State) : waitUnits n s = s.emit (.wait n) := rfl
@[simp] theorem xmit_eq (v : Word) (w : Tag) (s : State) :
    xmit v w s = (s.emit (.tx v w)).emit (.wait s.params.tFrame) := rfl

/-- The word MSGBUF holds depends on the listed words and the resets alone. -/
theorem msgWord_congr (s t : State) (hm : t.msgbuf = s.msgbuf) (hr : t.resets = s.resets) (i : Nat) :
    t.msgWord i = s.msgWord i := by
  simp [State.msgWord, hm, hr]

end Sys2Proof.Machine
end

