-- ==== Sys2Proof/Laws/Codec.lean ====
section
/-! SUPPORT. The Frame Codec, the payload fields and the judgement: what each function answers, said once. -/

namespace Sys2Proof.Machine

@[simp] theorem tagToKind_kindToTag (k : Kind) : tagToKind (kindToTag k) = some k := by cases k <;> rfl

/-- A recognised tag is the tag of its kind. -/
theorem kindToTag_of_tagToKind (w : Tag) (k : Kind) (h : tagToKind w = some k) : kindToTag k = w := by
  unfold tagToKind at h
  split at h
  · next hw => cases h; exact hw.symm
  · split at h
    · next hw => cases h; exact hw.symm
    · split at h
      · next hw => cases h; exact hw.symm
      · split at h
        · next hw => cases h; exact hw.symm
        · split at h
          · next hw => cases h; exact hw.symm
          · split at h
            · next hw => cases h; exact hw.symm
            · cases h

@[simp] theorem frameOf_tag (k : Kind) (v : Word) : (frameOf k v).tag = kindToTag k := rfl
@[simp] theorem frameOf_value (k : Kind) (v : Word) : (frameOf k v).value = v := rfl

@[simp] theorem taskField_taskValue (t : Task) : taskField (taskValue t) = t := by
  ext i h; simp [taskField, taskValue, BitVec.getLsbD_eq_getElem h]; omega

@[simp] theorem ackField_ackValue (t : Task) (b : Bool) : ackField (ackValue t b) = encodeAck t b := by
  ext i h; simp [ackField, ackValue, BitVec.getLsbD_eq_getElem h]; omega

@[simp] theorem qtyField_setWidth (q : BitVec 14) : qtyField (q.setWidth 32) = q := by
  ext i h; simp [qtyField, BitVec.getLsbD_eq_getElem h]; omega

@[simp] theorem csumField_csumValue (c : Crc) : csumField (csumValue c) = c := by
  ext i h; simp [csumField, csumValue, BitVec.getLsbD_eq_getElem h]; omega

@[simp] theorem termField_termValue : termField termValue = Config.termValue := by decide

/-- The status of an encoded acknowledgment (R101). -/
@[simp] theorem decodeStatus_encodeAck (t : Task) (b : Bool) : decodeStatus (encodeAck t b) = b := by
  cases b <;> simp [decodeStatus, encodeAck]

/-- The echo of an encoded acknowledgment (R103). -/
@[simp] theorem echo_encodeAck (t : Task) (b : Bool) : (encodeAck t b).extractLsb' 0 12 = t := by
  ext i h; simp [encodeAck, h]; omega

/-- An encoded acknowledgment validates exactly when it is positive and echoes the task (R103). -/
@[simp] theorem validateAck_encodeAck (t e : Task) (b : Bool) : validateAck (encodeAck t b) e = (b && t == e) := by
  simp [validateAck]

/-- The position table of WellFormed is the domain of `expected` (R84). -/
theorem expected_isSome (r : Role) (p : Phase) (u : UStep) : (expected r p u).isSome = waitingPosition r p u := by
  cases r <;> cases p <;> cases u <;> rfl

/-- What `accept` answers when the awaited frame arrived and is valid, and only then (R85). -/
theorem acceptFrame_ok (r : Option Frame) (k : Kind) (t : Task) (c : Crc) :
    (acceptFrame r k t c).1 = true ↔
      ∃ f, r = some f ∧ tagToKind f.tag = some k ∧ payloadValid k f.value t c = true := by
  cases r with
  | none => simp [acceptFrame]
  | some f =>
    simp only [acceptFrame]
    cases h : tagToKind f.tag with
    | none => simp [h]
    | some k' =>
      by_cases hk : k' = k
      · subst hk
        cases hp : payloadValid k' f.value t c <;> simp [h, hp]
      · simp [h, hk]

/-- `accept` names a cause exactly when it fails. -/
theorem acceptFrame_cause (r : Option Frame) (k : Kind) (t : Task) (c : Crc) :
    (acceptFrame r k t c).1 = (acceptFrame r k t c).2.isNone := by
  cases r with
  | none => rfl
  | some f =>
    simp only [acceptFrame]
    cases h : tagToKind f.tag with
    | none => rfl
    | some k' =>
      by_cases hk : k' = k
      · subst hk
        cases hp : payloadValid k' f.value t c <;> simp
      · simp [hk]

/-- The frame of a kind is judged by its payload alone where that kind is awaited. -/
theorem acceptFrame_frameOf_same (k : Kind) (v : Word) (t : Task) (c : Crc) :
    acceptFrame (some (frameOf k v)) k t c =
      if payloadValid k v t c then (true, none) else (false, some (payloadCause k)) := by
  simp [acceptFrame]; rfl

/-- The frame of another kind is a wrong kind. -/
theorem acceptFrame_frameOf_other (k k' : Kind) (v : Word) (t : Task) (c : Crc) (h : k' ≠ k) :
    acceptFrame (some (frameOf k' v)) k t c = (false, some (wrongKindCause k)) := by
  simp [acceptFrame, h]

end Sys2Proof.Machine
end

