-- ==== Sys2Proof/Laws/Memory.lean ====
section
/-! SUPPORT. MSGBUF: read after write, and that every operation keeps the canonical form. -/

namespace Sys2Proof.Machine

/-- A write is read back. -/
@[simp] theorem memGet_memSet_same (m : Memory) (i : Nat) (v : Word) : memGet (memSet m i v) i = some v := by
  induction m with
  | nil => simp [memSet, memGet]
  | cons c m ih =>
    obtain ⟨a, w⟩ := c
    simp only [memSet]
    split
    · simp [memGet]
    · split
      · simp [memGet]
      · simp only [memGet, ih, ite_eq_right_iff]
        omega

/-- A write leaves every other index alone. -/
theorem memGet_memSet_other (m : Memory) (i j : Nat) (v : Word) (h : j ≠ i) :
    memGet (memSet m i v) j = memGet m j := by
  induction m with
  | nil => simp [memSet, memGet, h.symm]
  | cons c m ih =>
    obtain ⟨a, w⟩ := c
    simp only [memSet]
    split
    · simp [memGet, h.symm]
    · split
      · next h1 => subst h1; simp [memGet, h.symm]
      · simp [memGet, ih]

/-- A write above a bound keeps the indices rising above that bound. -/
theorem memRises_memSet (m : Memory) (lo i : Nat) (v : Word) (h : memRises lo m = true) (hlo : lo ≤ i)
    (hi : i < Config.msgbufWords) : memRises lo (memSet m i v) = true := by
  induction m generalizing lo with
  | nil => simp [memSet, memRises, hlo, hi]
  | cons c m ih =>
    obtain ⟨a, w⟩ := c
    simp only [memRises, Bool.and_eq_true, decide_eq_true_eq] at h
    simp only [memSet]
    split
    · simp only [memRises, Bool.and_eq_true, decide_eq_true_eq]
      exact ⟨⟨hlo, hi⟩, ⟨⟨by omega, h.1.2⟩, h.2⟩⟩
    · split
      · next h1 => subst h1; simpa [memRises, hlo, hi] using h.2
      · simp only [memRises, Bool.and_eq_true, decide_eq_true_eq]
        exact ⟨h.1, ih (a + 1) h.2 (by omega)⟩

/-- A write inside MSGBUF keeps the canonical form. -/
theorem memSet_wf (m : Memory) (i : Nat) (v : Word) (h : Memory.wf m = true) (hi : i < Config.msgbufWords) :
    Memory.wf (memSet m i v) = true :=
  memRises_memSet m 0 i v h (Nat.zero_le _) hi

/-- The memory of reset has the canonical form. -/
theorem reset_msgbuf_wf : Memory.wf State.reset.msgbuf = true := rfl

/-- A word written is read back, whatever reset left there. -/
@[simp] theorem msgWord_setMsgWord_same (s : State) (i : Nat) (v : Word) : (s.setMsgWord i v).msgWord i = v := by
  simp [State.msgWord]

/-- Every other word of MSGBUF is left alone. -/
theorem msgWord_setMsgWord_other (s : State) (i j : Nat) (v : Word) (h : j ≠ i) :
    (s.setMsgWord i v).msgWord j = s.msgWord j := by
  simp [State.msgWord, memGet_memSet_other _ _ _ _ h]

end Sys2Proof.Machine
end

