-- ==== Sys2Proof/Laws/Transport.lean ====
section
/-! SUPPORT. The polls and RECV: all that they can change. -/

namespace Sys2Proof.Machine

/-- The free answer fits the tag wires (R113). -/
theorem freeAnswer_fits (p : Params) (n : Nat) : p.answerFits (freeAnswer p n) = true := by
  unfold freeAnswer
  split
  · simp [Params.answerFits, Params.tagFits, Nat.mod_lt]
  · rfl

/-- An attached adapter's poll answers a frame whose tag fits the tag wires, and so will the answers left (R113). -/
theorem pollOnce_fits (s : State) (h : s.answers.all s.params.answerFits = true) :
    s.params.answerFits (pollOnce s).1 = true ∧ (pollOnce s).2.answers.all s.params.answerFits = true := by
  unfold pollOnce takeAnswer
  rcases ha : s.answers with _ | ⟨r, rest⟩
  · exact ⟨freeAnswer_fits _ _, by simp⟩
  · rw [ha, List.all_cons, Bool.and_eq_true] at h
    exact h

/-- All that a poll changes: the answers left and the trace. -/
theorem pollOnce_spec (s : State) :
    ∃ a n, (pollOnce s).2 = { s with answers := a, polls := n, trace := s.trace ++ [.poll (pollOnce s).1] } := by
  unfold pollOnce takeAnswer
  cases s.answers <;> exact ⟨_, _, rfl⟩

/-- A listed answer is the answer of the next poll and is used up. -/
theorem pollOnce_listed (s : State) (r : Option Frame) (rest : List (Option Frame)) (h : s.answers = r :: rest) :
    pollOnce s = (r, { s with answers := rest, trace := s.trace ++ [.poll r] }) := by
  simp [pollOnce, takeAnswer, h, State.emit]

/-- All that an inner loop of RECV changes. -/
theorem pollRound_spec (round n i : Nat) (s : State) :
    ∃ a p tr r k, (pollRound round n i s).2 =
      { s with answers := a, polls := p, trace := s.trace ++ tr, pr := r, pi := k } := by
  induction n generalizing i s with
  | zero => exact ⟨s.answers, s.polls, [], s.pr, s.pi, by simp [pollRound]⟩
  | succ n ih =>
    obtain ⟨a, p, h⟩ := pollOnce_spec { s with pr := round, pi := i }
    simp only [pollRound]
    rcases hp : pollOnce { s with pr := round, pi := i } with ⟨r, s'⟩
    rw [hp] at h
    cases r with
    | some f => exact ⟨a, p, [.poll (some f)], round, i, h⟩
    | none =>
      obtain ⟨a', p', tr', r', k', h'⟩ := ih (i + 1) (waitUnits s'.params.pollPause s')
      simp only at h h' ⊢
      rw [h', h]
      exact ⟨a', p', .poll none :: .wait s.params.pollPause :: tr', r', k', by simp [State.emit]⟩

/-- All that the loops of RECV change. -/
theorem pollRounds_spec (n round : Nat) (s : State) :
    ∃ a p tr r k, (pollRounds n round s).2 =
      { s with answers := a, polls := p, trace := s.trace ++ tr, pr := r, pi := k } := by
  induction n generalizing round s with
  | zero => exact ⟨s.answers, s.polls, [], s.pr, s.pi, by simp [pollRounds]⟩
  | succ n ih =>
    obtain ⟨a, p, tr, r, k, h⟩ := pollRound_spec round s.params.pollIters 0 s
    simp only [pollRounds]
    rcases hp : pollRound round s.params.pollIters 0 s with ⟨f, s'⟩
    rw [hp] at h
    cases f with
    | some f => exact ⟨a, p, tr, r, k, h⟩
    | none =>
      obtain ⟨a', p', tr', r', k', h'⟩ := ih (round + 1) s'
      simp only at h h' ⊢
      rw [h', h]
      exact ⟨a', p', tr ++ tr', r', k', by simp⟩

/-- All that RECV changes: the answers left, the trace, the latch; PR and PI are 0 after it. -/
theorem recv_spec (s : State) :
    ∃ a p tr, (recv s).2 = latch (recv s).1 { s with answers := a, polls := p, trace := s.trace ++ tr, pr := 0, pi := 0 } := by
  obtain ⟨a, p, tr, r, k, h⟩ := pollRounds_spec s.params.pollRounds 0 (beginListening s)
  simp only [recv]
  rcases hp : pollRounds s.params.pollRounds 0 (beginListening s) with ⟨f, s'⟩
  rw [hp] at h
  simp only at h ⊢
  rw [h]
  exact ⟨a, p, .listen :: (tr ++ [.wait s.params.tFrame]), by simp [State.emit]⟩

/-- The first poll's frame ends an inner loop. -/
theorem pollRound_first (round n i : Nat) (s : State) (f : Frame) (rest : List (Option Frame))
    (h : s.answers = some f :: rest) :
    pollRound round (n + 1) i s =
      (some f, { s with answers := rest, trace := s.trace ++ [.poll (some f)], pr := round, pi := i }) := by
  simp only [pollRound]
  rw [pollOnce_listed { s with pr := round, pi := i } (some f) rest h]

/-- The first poll's frame ends the window: RECV makes exactly one poll (R115). -/
theorem recv_first (s : State) (f : Frame) (rest : List (Option Frame)) (h : s.answers = some f :: rest) :
    recv s = (some f, { s with
      answers := rest, trace := s.trace ++ [.listen, .poll (some f), .wait s.params.tFrame], pr := 0, pi := 0,
      rxv := true, rxtag := f.tag, rxval := f.value }) := by
  have h2 := pollRound_first 0 s.params.pollItersLessOne 0 (s.emit .listen) f rest (by simpa using h)
  simp only [recv, Params.pollRounds, pollRounds, Params.pollIters, beginListening_eq, emit_params] at h2 ⊢
  rw [h2]
  simp [latch, State.emit]

/-- receiveAck is RECV judged as an acknowledgment (R117). -/
theorem receiveAck_eq (e : Task) (s : State) :
    receiveAck e s = ((acceptFrame (recv s).1 .ack e (recv s).2.crc).1, (recv s).2) := rfl

end Sys2Proof.Machine
end

