-- ==== Sys2Proof/Laws/Judge.lean ====
section
/-! SUPPORT. The step failure, the completion, the acceptances, the judgement and the step: all that each can do. -/

namespace Sys2Proof.Machine

/-- A Sender's failed attempt before the fifth (R180). -/
theorem failStep_retry (c : Cause) (s : State) (hr : s.role = .sender) (hc : c ≠ .operandRange)
    (ha : s.att.toNat < 5) :
    failStep c s = { s with trace := s.trace ++ [.wait s.params.tRetry], ustep := .uTx, cause := some c } := by
  simp [failStep, hr, hc, Config.maxAttempts, ha, State.emit]

/-- A Sender's fifth failed attempt (R181). -/
theorem failStep_exhausted (c : Cause) (s : State) (hr : s.role = .sender) (hc : c ≠ .operandRange)
    (ha : 5 ≤ s.att.toNat) : failStep c s = { s with phase := .pFail, cause := some .retryExhausted } := by
  simp [failStep, hr, hc, Config.maxAttempts, Nat.not_lt.mpr ha]

/-- A Receiver's failed wait (R182). -/
theorem failStep_receiver (c : Cause) (s : State) (hr : s.role = .receiver) :
    failStep c s = { s with ackok := false, ustep := .uTxa, cause := some c } := by
  simp [failStep, hr]

/-- Where nothing is awaited, nothing is judged (R179). -/
theorem judge_unawaited (r : Option Frame) (s : State) (h : expected s.role s.phase s.ustep = none) :
    judge r s = .next s := by
  simp [judge, h]

/-- A failed judgement is a step failure (R180 to R182). -/
theorem judge_fails (r : Option Frame) (s : State) (k : Kind) (c : Cause)
    (h : expected s.role s.phase s.ustep = some k) (ha : acceptFrame r k s.t s.crc = (false, some c)) :
    judge r s = .next (failStep c s) := by
  simp [judge, h, ha]

/-- A Sender that judged well advances (R136). -/
theorem judge_advances (r : Option Frame) (s : State) (k : Kind) (c : Option Cause) (hs : s.role = .sender)
    (h : expected s.role s.phase s.ustep = some k) (ha : acceptFrame r k s.t s.crc = (true, c)) :
    judge r s = .next (advanceSender s) := by
  simp only [judge, h, ha]
  rw [hs]
  simp

/-- A Receiver that judged well takes the frame (R153). -/
theorem judge_takes (f : Frame) (s : State) (k : Kind) (c : Option Cause) (hs : s.role = .receiver)
    (h : expected s.role s.phase s.ustep = some k) (ha : acceptFrame (some f) k s.t s.crc = (true, c)) :
    judge (some f) s = receiverAccepts k f.value s := by
  simp only [judge, h, ha]
  rw [hs]
  simp

/-- What a Sender awaits is an acknowledgment (R84). -/
theorem expected_sender (p : Phase) (u : UStep) (k : Kind) (h : expected .sender p u = some k) : k = .ack := by
  cases p <;> cases u <;> cases k <;> simp_all [expected]

/-- What a Receiver awaits is never an acknowledgment (R84, R105). -/
theorem expected_receiver (p : Phase) (u : UStep) (k : Kind) (h : expected .receiver p u = some k) : k ≠ .ack := by
  cases p <;> cases u <;> cases k <;> simp_all [expected]

/-- All that a judgement can do: nothing where nothing is awaited, a step failure, a Sender's advance, or what the
Receiver does with an accepted frame. -/
theorem judge_cases (r : Option Frame) (s : State) :
    (expected s.role s.phase s.ustep = none ∧ judge r s = .next s) ∨
    (∃ k c, expected s.role s.phase s.ustep = some k ∧ acceptFrame r k s.t s.crc = (false, some c) ∧
      judge r s = .next (failStep c s)) ∨
    (∃ k, expected s.role s.phase s.ustep = some k ∧ (acceptFrame r k s.t s.crc).1 = true ∧ s.role = .sender ∧
      judge r s = .next (advanceSender s)) ∨
    (∃ k f, expected s.role s.phase s.ustep = some k ∧ (acceptFrame r k s.t s.crc).1 = true ∧ s.role = .receiver ∧
      r = some f ∧ judge r s = receiverAccepts k f.value s) := by
  rcases hk : expected s.role s.phase s.ustep with _ | k
  · exact .inl ⟨rfl, judge_unawaited r s hk⟩
  · right
    rcases ha : acceptFrame r k s.t s.crc with ⟨ok, c⟩
    cases ok with
    | false =>
      have hc := acceptFrame_cause r k s.t s.crc
      rw [ha] at hc
      cases c with
      | none => simp at hc
      | some c => exact .inl ⟨k, c, rfl, ha, judge_fails r s k c hk ha⟩
    | true =>
      right
      have hok : (acceptFrame r k s.t s.crc).1 = true := by rw [ha]
      obtain ⟨f, hf, -⟩ := (acceptFrame_ok r k s.t s.crc).mp hok
      cases hr : s.role with
      | idle => rw [hr] at hk; revert hk; cases s.phase <;> cases s.ustep <;> simp [expected]
      | sender => exact .inl ⟨k, rfl, hok, rfl, judge_advances r s k c hr hk ha⟩
      | receiver =>
        subst hf
        exact .inr ⟨k, f, rfl, hok, rfl, rfl, judge_takes f s k c hr hk ha⟩

/-- Which event a step takes, and what it leaves of the list. -/
theorem takeHost_cases (s : State) :
    (s.host = [] ∧ takeHost s = (.quiet, s)) ∨
    (∃ ev rest, s.host = ev :: rest ∧ takeHost s = (ev, { s with host := rest })) := by
  cases h : s.host with
  | nil => exact .inl ⟨rfl, by simp [takeHost, h]⟩
  | cons ev rest => exact .inr ⟨ev, rest, rfl, by simp [takeHost, h]⟩

/-- A step is the event the host's list gives. -/
theorem step_of_event (s s' : State) (ev : HostEvent) (h : takeHost s = (ev, s')) : step s = runEvent ev s' := by
  simp [step, h]

/-- A waiting micro-step whose RECV found nothing judges nothing received. -/
theorem awaitStep_none (s s' : State) (h : recv s = (none, s')) : awaitStep s = judge none s' := by
  simp [awaitStep, h]

/-- A waiting micro-step runs the instruction its frame encodes. -/
theorem awaitStep_decoded (s s' : State) (f : Frame) (i : Instr) (h : recv s = (some f, s'))
    (hd : decodePair f = .ok i) : awaitStep s = exec i s' := by
  simp [awaitStep, h, hd]

/-- A waiting micro-step judges a frame that is no row of the table. -/
theorem awaitStep_undecoded (s s' : State) (f : Frame) (e : DecodeError) (h : recv s = (some f, s'))
    (hd : decodePair f = .error e) : awaitStep s = judge (some f) s' := by
  simp [awaitStep, h, hd]

/-- An engine that awaits a frame takes its waiting micro-step. -/
theorem engineStep_awaits (s : State) (h : s.awaits = true) : engineStep s = awaitStep s := by
  simp only [State.awaits] at h
  cases hr : s.role <;> cases hp : s.phase <;> cases hu : s.ustep <;>
    simp_all [waitingPosition, engineStep, senderStep, receiverStep]

end Sys2Proof.Machine
end

