-- ==== Sys2Proof/Laws/Loopback.lean ====
section
/-! SUPPORT. The ends of the loopback: all that each can do. -/

namespace Sys2Proof.Machine

/-- All that an end can do: it moves by itself, or, when neither it nor its peer can, its window closes. -/
theorem endStep_cases (s : State) (q : List Frame) (peer : State) (peerQ : List Frame)
    (r : State × List Frame × List Frame) (h : endStep s q peer peerQ = some r) :
    endAlone s q = some r ∨
      (endAlone s q = none ∧ endAlone peer peerQ = none ∧ endWindow s q = some r) := by
  unfold endStep at h
  cases ha : endAlone s q with
  | some r' => rw [ha] at h; exact .inl h
  | none =>
    rw [ha] at h
    cases hp : endAlone peer peerQ with
    | some x => rw [hp] at h; simp at h
    | none => rw [hp] at h; simpa using h

/-- A host access of an end leaves its queue as it was. -/
theorem endAlone_host (s : State) (q : List Frame) (hr : atRest s = false) (hl : listens s = false) :
    endAlone s q = endMoves s q := by
  simp [endAlone, hr, hl]

/-- An end that listens takes the head of its queue. -/
theorem endAlone_listens (s : State) (f : Frame) (q : List Frame) (hr : atRest s = false)
    (hl : listens s = true) : endAlone s (f :: q) = endMoves { s with answers := [some f] } q := by
  simp [endAlone, hr, hl]

end Sys2Proof.Machine
end

