-- ==== Sys2Proof/Laws/PerInstr.lean ====
section
/-! SUPPORT. A statement about every instruction as syntax, one lemma per constructor: the encoder gives a code word to
exactly the instructions of the frame and command formats, of that format, and the code word has the row's fixed bits
(spec/30_encoding.md R72, R76). -/

namespace Sys2Proof.Laws.Encoding

open Sys2Proof Sys2Proof.Machine

/-- A frame word of the instruction's row, a CMD code, or, for an internal operation, no encoding. -/
def Statement (i : Instr) : Prop :=
  match i.format with
  | .frame => ∃ fw, encode i = some (.frame fw) ∧ ∃ r ∈ opcodeRows, r.mnemonic = i.mnemonic ∧ r.hits fw = true
  | .command => ∃ c, encode i = some (.command c)
  | .internal => encode i = none

/-- A frame word hits a row when it agrees with the row's bits one by one. -/
theorem hits_of_bits (r : OpcodeRow) (fw : FrameWord)
    (h : ∀ i, i < 38 → (fw.getLsbD i && r.maskBits.getLsbD i) = r.matchBits.getLsbD i) : r.hits fw = true := by
  rw [OpcodeRow.hits, beq_iff_eq]
  apply BitVec.eq_of_getLsbD_eq
  intro i hi
  rw [BitVec.getLsbD_and, h i hi]

theorem task (t : Task) : Statement (.task t) := by
  refine ⟨_, rfl, opcodeRows[0], by decide, rfl, hits_of_bits _ _ fun i h => ?_⟩
  simp only [opcodeRows, frameWordOf, Frame.word, List.getElem_cons_zero]
  interval_cases i <;> simp

theorem ack (e : Task) : Statement (.ack e) := by
  refine ⟨_, rfl, opcodeRows[1], by decide, rfl, hits_of_bits _ _ fun i h => ?_⟩
  simp only [opcodeRows, frameWordOf, Frame.word, List.getElem_cons_zero, List.getElem_cons_succ]
  interval_cases i <;> simp

theorem nack (e : Task) : Statement (.nack e) := by
  refine ⟨_, rfl, opcodeRows[2], by decide, rfl, hits_of_bits _ _ fun i h => ?_⟩
  simp only [opcodeRows, frameWordOf, Frame.word, List.getElem_cons_zero, List.getElem_cons_succ]
  interval_cases i <;> simp

theorem qty (q : BitVec 14) : Statement (.qty q) := by
  refine ⟨_, rfl, opcodeRows[3], by decide, rfl, hits_of_bits _ _ fun i h => ?_⟩
  simp only [opcodeRows, frameWordOf, Frame.word, List.getElem_cons_zero, List.getElem_cons_succ]
  interval_cases i <;> simp

theorem term : Statement .term := by
  exact ⟨_, rfl, opcodeRows[4], by decide, rfl, by decide⟩

theorem csum (c : Crc) : Statement (.csum c) := by
  refine ⟨_, rfl, opcodeRows[5], by decide, rfl, hits_of_bits _ _ fun i h => ?_⟩
  simp only [opcodeRows, frameWordOf, Frame.word, List.getElem_cons_zero, List.getElem_cons_succ]
  interval_cases i <;> simp

theorem data (w : Word) : Statement (.data w) := by
  refine ⟨_, rfl, opcodeRows[6], by decide, rfl, hits_of_bits _ _ fun i h => ?_⟩
  simp only [opcodeRows, frameWordOf, Frame.word, List.getElem_cons_zero, List.getElem_cons_succ]
  interval_cases i <;> simp

theorem nop : Statement .nop := ⟨_, rfl⟩
theorem send : Statement .send := ⟨_, rfl⟩
theorem receive : Statement .receive := ⟨_, rfl⟩
theorem reserved3 : Statement .reserved3 := ⟨_, rfl⟩

theorem kindToTag (k : Kind) : Statement (.kindToTag k) := rfl
theorem tagToKind (w : Tag) : Statement (.tagToKind w) := rfl
theorem payloadValid (k : Kind) (v : Word) (x : Task) (c : Crc) : Statement (.payloadValid k v x c) := rfl
theorem expected (r : Role) (p : Phase) (u : UStep) : Statement (.expected r p u) := rfl
theorem accept (f : Option Frame) (k : Kind) (x : Task) (c : Crc) : Statement (.accept f k x c) := rfl
theorem checksum (w : Word) : Statement (.checksum w) := rfl
theorem crcUpdate (c : Crc) (b : Byte) : Statement (.crcUpdate c b) := rfl
theorem encodeAck (t : Task) (b : Bool) : Statement (.encodeAck t b) := rfl
theorem decodeStatus (a : AckValue) : Statement (.decodeStatus a) := rfl
theorem validateAck (a : AckValue) (e : Task) : Statement (.validateAck a e) := rfl
theorem transmit (v : Word) (w : Tag) : Statement (.transmit v w) := rfl
theorem beginListening : Statement .beginListening := rfl
theorem pollOnce : Statement .pollOnce := rfl
theorem xmit (v : Word) (w : Tag) : Statement (.xmit v w) := rfl
theorem recv : Statement .recv := rfl
theorem receiveAck (e : Task) : Statement (.receiveAck e) := rfl

end Sys2Proof.Laws.Encoding
end

