-- ==== Sys2Proof/Tests/Slice0.lean ====
section
/-! SUPPORT. The model's own tests. The expected values come from spec/95_test_vectors.md (its vector numbers S1 to S27,
V1 to V30 stand in the comments) or from the rule named. `witness_` theorems show concrete states and operands that
meet the hypotheses of an obligation, one per clause, at boundary values. -/

namespace Sys2Proof.Tests

-- One theorem after another: many kernel evaluations at once would take more thread stacks than memory allows.
set_option Elab.async false

open Sys2Proof Sys2Proof.Machine

/-- The next state of an outcome. -/
def nx : Host.Outcome State Fault Refusal → Option State
  | .next s => some s
  | .fault _ => none
  | .refused _ => none

/-- A field of the next state. -/
def fld {α : Type} (o : Host.Outcome State Fault Refusal) (g : State → α) : Option α := (nx o).map g

/-- The parameters of the example of spec/95_test_vectors.md section 2.5: two rounds of three polls. -/
def pars : Params :=
  { crc := Config.crcDefault, tagWLessSix := 0, tFrame := 50, tRetry := 50, pollItersLessOne := 2, pollRoundsLessOne := 1,
    pollPause := 3, timeUnit := 1 }

/-- An idle engine. -/
def idle : State := { State.reset with params := pars }

/-- A Sender of task 7 at a position, with the two words of the vectors. -/
def snd (p : Phase) (i : Count) (u : UStep) (a : BitVec 3) (q : Count) : State :=
  { idle with statusBusy := true, role := .sender, phase := p, idx := i, ustep := u, att := a, t := 7, q := q
              msgbuf := [(0, 0x12345678), (1, 1)] }

/-- A Receiver of task `t` at a position. -/
def rcv (p : Phase) (i : Count) (u : UStep) (ok : Bool) (t : Task) (q : Count) : State :=
  { idle with statusBusy := true, role := .receiver, phase := p, idx := i, ustep := u, ackok := ok, t := t, q := q }

/-- The state with the adapter's next answer. -/
def ans (s : State) (f : Option Frame) : State := { s with answers := [f] }

/-- The state with the adapter answering nothing for a whole window. -/
def silent (s : State) : State := { s with answers := List.replicate 6 none }

/-- A Receiver in U_RXC that holds the word of V17 and its checksum. -/
def rxc (i q : Count) : State := { rcv .pData i .uRxc false 7 q with dw := 0x12345678, crc := 0x30EC }

/-! ## Well-formedness -/

theorem test_wf_refuses_transmit_tag : (Instr.transmit 0 11).wf = false := by decide
theorem test_wf_refuses_transmit_value : (Instr.transmit 0x1000 12).wf = false := by decide
theorem test_wf_accepts_transmit : (Instr.transmit 0xFFF 12).wf = true := by decide
theorem test_wf_refuses_xmit_tag : (Instr.xmit 0 17).wf = false := by decide
theorem test_wf_refuses_xmit_value : (Instr.xmit 0x10000 16).wf = false := by decide
theorem test_wf_accepts_xmit : (Instr.xmit 0xFFFFFFFF 32).wf = true := by decide
theorem test_wf_refuses_expected : (Instr.expected .receiver .pTask .uRxc).wf = false := by decide
theorem test_wf_accepts_expected : (Instr.expected .receiver .pData .uRxc).wf = true := by decide

/-! ## Decoding (section 2.1; CMD codes of R72) -/

theorem test_decode_task : decodeTableWord 40 0x0C00000FFF = some (.task 0xFFF) := by decide
theorem test_decode_task_unused : decodeTableWord 40 0x0CFFFFF007 = some (.task 7) := by decide
theorem test_decode_ack : decodeTableWord 40 0x0D00001007 = some (.ack 7) := by decide
theorem test_decode_nack : decodeTableWord 40 0x0D00000BAD = some (.nack 0xBAD) := by decide
theorem test_decode_qty : decodeTableWord 40 0x0E00000040 = some (.qty 64) := by decide
theorem test_decode_term : decodeTableWord 40 0x0F00000E2D = some .term := by decide
theorem test_decode_csum : decodeTableWord 40 0x10000094E1 = some (.csum 0x94E1) := by decide
theorem test_decode_data : decodeTableWord 40 0x20FFFFFFFF = some (.data 0xFFFFFFFF) := by decide
theorem test_decode_nop : decodeTableWord 8 0 = some .nop := by decide
theorem test_decode_send : decodeTableWord 8 1 = some .send := by decide
theorem test_decode_receive : decodeTableWord 8 2 = some .receive := by decide
theorem test_decode_reserved3 : decodeTableWord 8 3 = some .reserved3 := by decide
theorem test_decode_rejects_tags : decodeFrame 0x1F00000E2D#38 = .error (.unrecognisedTag 31) ∧
    decodeFrame 0x0000000000#38 = .error (.unrecognisedTag 0) := ⟨rfl, rfl⟩
theorem test_decode_rejects_sentinel : decodeFrame 0x0F00000E2C#38 = .error (.invalidTerminator 0xE2C) := rfl
theorem test_encode_ack : encode (.ack 0xFFF) = some (.frame 0x0D00001FFF#38) := by decide
theorem test_encode_csum : encode (.csum 0x94E1) = some (.frame 0x10000094E1#38) := by decide

/-! ## The placed instruction runs as the first one after reset -/

/-- V2, whose state after is V3's state before: PHASE = P_TASK with T = 7. -/
theorem test_fetch_task : fld (step (State.reset.withFetchWord 40 0x0C00000007))
    (fun t => (t.role, t.phase, t.ustep, t.t, t.ackok)) = some (.receiver, .pTask, .uTxa, 7, true) := by
  decide +kernel
theorem test_fetch_send : fld (step (State.reset.withFetchWord 8 1)) (fun t => (t.role, t.statusWord)) =
    some (.sender, 1) := by decide +kernel

/-! ## Frames: the step that receives them -/

/-- V8. -/
theorem test_task_bad : fld (step (ans (rcv .pTask 0 .uRx false 0xBAD 0) (some ⟨0xBAD, 12⟩)))
    (fun t => (t.t, t.ackok, t.ustep)) = some (0xBAD, true, .uTxa) := by decide +kernel
/-- V15. -/
theorem test_task_in_pQty : fld (step (ans (rcv .pQty 0 .uRx false 7 0) (some ⟨7, 12⟩)))
    (fun t => (t.ackok, t.cause)) = some (false, some .wrongKind) := by decide +kernel
/-- S12, S26. -/
theorem test_ack_fifth : fld (step (ans (snd .pTask 0 .uRx 5 2) (some ⟨0xABCD3007, 13⟩))) State.pos =
    some (.sender, .pQty, 0, .uTx, 0) := by decide +kernel
/-- S21. -/
theorem test_ack_last_word : fld (step (ans (snd .pData 63 .uRx 1 64) (some ⟨0x1007, 13⟩))) State.pos =
    some (.sender, .pTerm, 63, .uTx, 0) := by decide +kernel
/-- S8: a negative acknowledgment is one failed attempt. -/
theorem test_nack_retry : fld (step (ans (snd .pTask 0 .uRx 2 2) (some ⟨7, 13⟩)))
    (fun t => (decide (t.pos = (.sender, .pTask, 0, .uTx, 2)), t.cause)) =
    some (true, some .ackMismatch) := by decide +kernel
/-- R139. -/
theorem test_nack_exhausts : fld (exec (.nack 7) (snd .pTask 0 .uRx 5 2)) (fun t => (t.phase, t.cause)) =
    some (.pFail, some .retryExhausted) := by decide +kernel
/-- V13. -/
theorem test_qty_64 : fld (step (ans (rcv .pQty 0 .uRx false 7 0) (some ⟨0x40, 14⟩))) (fun t => (t.q, t.ackok)) =
    some (64, true) := by decide +kernel
/-- V14. -/
theorem test_qty_65 : fld (step (ans (rcv .pQty 0 .uRx false 7 0) (some ⟨0x41, 14⟩)))
    (fun t => (t.q, t.ackok, t.cause)) = some (0, false, some .qtyOverflow) := by decide +kernel
/-- V25. -/
theorem test_term : fld (step (ans (rcv .pTerm 1 .uRx false 7 2) (some ⟨0xE2D, 15⟩))) State.ackok = some true := by
  decide +kernel
/-- V26: a frame that matches no row of the table is judged all the same. -/
theorem test_bad_term : fld (step (ans (rcv .pTerm 1 .uRx false 7 2) (some ⟨0xE2C, 15⟩)))
    (fun t => (t.ackok, t.cause)) = some (false, some .badTerminator) := by decide +kernel
/-- V17. -/
theorem test_csum_stores : fld (step (ans (rxc 0 2) (some ⟨0x30EC, 16⟩))) (fun t => (t.msgbuf, t.ackok)) =
    some ([(0, 0x12345678)], true) := by decide +kernel
/-- V18. -/
theorem test_csum_mismatch : fld (step (ans (rxc 0 2) (some ⟨0x30ED, 16⟩))) (fun t => (t.msgbuf, t.cause)) =
    some ([], some .csumMismatch) := by decide +kernel
/-- V16. -/
theorem test_data : fld (step (ans (rcv .pData 0 .uRx false 7 2) (some ⟨0x12345678, 32⟩)))
    (fun t => (t.dw, t.crc, t.ustep, t.trace.length)) = some (0x12345678, 0x30EC, .uRxc, 3) := by decide +kernel
/-- V20. -/
theorem test_data_in_uRxc : fld (step (ans (rxc 0 2) (some ⟨1, 32⟩))) (fun t => (t.ackok, t.cause)) =
    some (false, some .wrongKind) := by decide +kernel
/-- V7: an unrecognised tag. -/
theorem test_violation : fld (step (ans (rcv .pTask 0 .uRx false 0xBAD 0) (some ⟨7, 20⟩)))
    (fun t => (t.t, t.cause)) = some (0xBAD, some .violation) := by decide +kernel
/-- V19. -/
theorem test_miss : fld (step (silent (rxc 0 2))) (fun t => (t.msgbuf, t.cause, t.rxv)) =
    some ([], some .miss, false) := by decide +kernel

/-! ## Commands -/

theorem test_nop : fld (exec .nop idle) State.statusWord = some 0 := by decide +kernel
theorem test_reserved3 : fld (exec .reserved3 idle) State.statusWord = some 0 := by decide +kernel
/-- S1. -/
theorem test_send : fld (exec .send { idle with opTask := 7, opQty := 2 })
    (fun t => (decide (t.pos = (.sender, .pTask, 0, .uTx, 0)), t.t, t.q, t.statusWord)) =
    some (true, 7, 2, 1) := by decide +kernel
/-- S2. -/
theorem test_send_65 : fld (exec .send { idle with opQty := 65 }) (fun t => (t.phase, t.statusWord, t.trace)) =
    some (.pFail, 1, []) := by decide +kernel
/-- R33: after a failed RECEIVE, which leaves U_TXA, a refused SEND is a Sender in U_TX. -/
theorem test_send_refused_ustep : fld (exec .send { idle with opQty := 127, ustep := .uTxa })
    (fun t => (t.role, t.phase, t.ustep, t.q)) = some (.sender, .pFail, .uTx, 127) := by decide +kernel
/-- V1, from STATUS 110. -/
theorem test_receive : fld (exec .receive { idle with statusDone := true, statusOk := true })
    (fun t => (decide (t.pos = (.receiver, .pTask, 0, .uRx, 0)), t.t, t.q, t.statusWord)) = some (true, 0xBAD, 0, 1) := by
  decide +kernel
/-- A busy engine ignores a command (section 2.6). -/
theorem test_receive_busy : fld (exec .receive (snd .pTask 0 .uTx 0 2)) State.role = some .sender := by decide +kernel

/-! ## Internal operations (sections 2.2 to 2.5) -/

theorem test_kindToTag : fld (exec (.kindToTag .checksum) idle) State.out = some (.tag 16) := by decide +kernel
theorem test_tagToKind : fld (exec (.tagToKind 32) idle) State.out = some (.kind (some .data)) := by decide +kernel
theorem test_tagToKind_unknown : fld (exec (.tagToKind 33) idle) State.out = some (.kind none) := by decide +kernel
theorem test_payloadValid : fld (exec (.payloadValid .quantity 0x4002 0 0) idle) State.out = some (.truth true) := by
  decide +kernel
theorem test_payloadValid_ack : fld (exec (.payloadValid .ack 0x1008 7 0) idle) State.out = some (.truth false) := by
  decide +kernel
theorem test_expected : fld (exec (.expected .receiver .pData .uRxc) idle) State.out =
    some (.kind (some .checksum)) := by decide +kernel
theorem test_accept : fld (exec (.accept (some ⟨0x3007, 13⟩) .ack 7 0x30EC) idle) State.out =
    some (.judgement true none) := by decide +kernel
theorem test_accept_tag : fld (exec (.accept (some ⟨0x1007, 40⟩) .ack 7 0x30EC) idle) State.out =
    some (.judgement false (some .ackWrongKind)) := by decide +kernel
theorem test_checksum : fld (exec (.checksum 0x12345678) idle) State.out = some (.crc 0x30EC) := by decide +kernel
/-- KERMIT, R98. -/
theorem test_checksum_reflected : checksum ⟨0x1021, 0, true, true, 0⟩ 1 = 0x1189 := by decide +kernel
theorem test_crcUpdate : fld (exec (.crcUpdate 0xFFFF 0x12) idle) State.out = some (.crc 0xD383) := by decide +kernel
theorem test_encodeAck : fld (exec (.encodeAck 0x800 true) idle) State.out = some (.ack 0x1800) := by decide +kernel
theorem test_decodeStatus : fld (exec (.decodeStatus 0x0FFF) idle) State.out = some (.truth false) := by
  decide +kernel
theorem test_validateAck : fld (exec (.validateAck 0x1FFF 0x7FF) idle) State.out = some (.truth false) := by
  decide +kernel
theorem test_transmit : fld (exec (.transmit 7 12) idle) State.trace = some [.tx 7 12] := by decide +kernel
theorem test_beginListening : fld (exec .beginListening idle) State.trace = some [.listen] := by decide +kernel
theorem test_pollOnce : fld (exec .pollOnce (ans idle (some ⟨7, 12⟩))) (fun t => (t.answers, t.out)) =
    some ([], .frame (some ⟨7, 12⟩)) := by decide +kernel
theorem test_xmit : fld (exec (.xmit 7 12) idle) State.trace = some [.tx 7 12, .wait 50] := by decide +kernel
/-- Section 2.5, second row: the second outer round does not listen again. -/
theorem test_recv_second_round : fld (exec .recv { idle with answers := [none, none, none, none, some ⟨0x1007, 13⟩] })
    (fun t => (t.trace, t.rxv, t.rxtag, t.rxval)) =
    some ([.listen, .poll none, .wait 3, .poll none, .wait 3, .poll none, .wait 3, .poll none, .wait 3,
      .poll (some ⟨0x1007, 13⟩), .wait 50], true, 13, 0x1007) := by decide +kernel
theorem test_recv_none : fld (exec .recv (silent idle)) (fun t => (t.out, t.trace.length, t.rxv, t.pr, t.pi)) =
    some (.frame none, 14, false, 0, 0) := by decide +kernel
theorem test_receiveAck : fld (exec (.receiveAck 7) (ans idle (some ⟨0x1007, 13⟩))) State.out =
    some (.truth true) := by decide +kernel
theorem test_receiveAck_kind : fld (exec (.receiveAck 7) (ans idle (some ⟨0x1007, 12⟩))) State.out =
    some (.truth false) := by decide +kernel

/-! ## The sequencer -/

/-- S4. -/
theorem test_sender_task : fld (step (snd .pTask 0 .uTx 0 2))
    (fun t => (decide (t.pos = (.sender, .pTask, 0, .uRx, 1)), t.trace)) =
    some (true, [.tx 7 12, .wait 50]) := by decide +kernel
/-- S16. -/
theorem test_sender_data : fld (step (snd .pData 0 .uTx 0 2))
    (fun t => (decide (t.pos = (.sender, .pData, 0, .uTxc, 1)), t.trace, t.dw)) =
    some (true, [.tx 0x12345678 32, .wait 50], 0x12345678) := by decide +kernel
/-- S17. -/
theorem test_sender_csum : fld (step { snd .pData 0 .uTxc 1 2 with dw := 0x12345678 })
    (fun t => (decide (t.pos = (.sender, .pData, 0, .uRx, 1)), t.trace, t.crc)) =
    some (true, [.tx 0x30EC 16, .wait 50], 0x30EC) := by decide +kernel
/-- S11: no wait(T_RETRY) after the fifth attempt. -/
theorem test_sender_exhausted : fld (step (silent (snd .pTask 0 .uRx 5 2)))
    (fun t => (t.phase, t.cause, t.trace.length)) = some (.pFail, some .retryExhausted, 14) := by decide +kernel
/-- V3. -/
theorem test_receiver_ack : fld (step (rcv .pTask 0 .uTxa true 7 0))
    (fun t => (decide (t.pos = (.receiver, .pQty, 0, .uRx, 0)), t.ackok, t.trace)) =
    some (true, false, [.tx 0x1007 13, .wait 50]) := by decide +kernel
/-- V5. -/
theorem test_receiver_badnack : fld (step (rcv .pTask 0 .uTxa false 0xBAD 0)) (fun t => (t.phase, t.trace)) =
    some (.pFail, [.tx 0xBAD 13, .wait 50]) := by decide +kernel
/-- V29. -/
theorem test_receiver_done : fld (step (rcv .pDone 1 .uRx false 7 2))
    (fun t => (t.role, t.statusWord, t.resTask, t.resQty, t.trace)) = some (.idle, 6, 7, 2, [.done true]) := by
  decide +kernel
/-- V30. -/
theorem test_receiver_fail : fld (step (rcv .pFail 1 .uTxa false 7 2)) (fun t => (t.statusWord, t.resTask)) =
    some (2, 0) := by decide +kernel

/-! ## Witnesses: hypotheses that can be met -/

/-- A silent host is one with nothing listed. -/
theorem quiet_of_no_host (s : State) (h : s.host = []) : takeHost s = (.quiet, s) := by
  unfold takeHost; rw [h]

theorem witness_DecodeOfEncode : (Instr.task 0xFFF).wf = true ∧
    encode (.task 0xFFF) = some (.frame 0x0C00000FFF#38) := by decide
theorem witness_EncodeOfDecode : decodeFrame 0x0CFFFFF007#38 = .ok (.task 7) := rfl
theorem witness_DecoderFollowsTheOpcodeMap : opcodeRows[4] ∈ opcodeRows ∧
    opcodeRows[4].hits 0x0F00008E2D#38 = true ∧ ∀ r ∈ opcodeRows, r.hits 0x0F00000E2C#38 = false := by decide
theorem witness_RejectedFrameWords : decodePair ⟨0, 64⟩ = .error (.unrecognisedTag 64) ∧
    decodePair ⟨0x7FFF, 15⟩ = .error (.invalidTerminator 0x7FFF) ∧ (63 : Tag) < 64 ∧
    decodeFrame (frameWordOf 63 0) = .error (.unrecognisedTag 63) := ⟨rfl, rfl, by decide, rfl⟩
/-- With seven tag wires the tag 64 + 12 is still unrecognised and no Task frame (R70, R113). -/
theorem test_wide_tag : fld (step { ans (rcv .pTask 0 .uRx false 0xBAD 0) (some ⟨7, 76⟩) with
    params := { pars with tagWLessSix := 1 } }) (fun t => (t.rxtag, t.t, t.cause, t.params.tagFits 76)) =
    some (76, 0xBAD, some .violation, true) := by decide +kernel

/-- A Receiver that awaits a Task frame, which comes. -/
def rxTask : State := ans (rcv .pTask 0 .uRx false 0xBAD 0) (some ⟨0xFFFFFFFF, 12⟩)

theorem witness_StepRunsTheFetched_command :
    takeHost { idle with host := [.write 0 0xFFFFFFFF] } = (.write 0 0xFFFFFFFF, idle) := rfl
theorem witness_StepRunsTheFetched_frame : takeHost rxTask = (.quiet, rxTask) ∧ rxTask.awaits = true ∧
    recv rxTask = (some ⟨0xFFFFFFFF, 12⟩, (recv rxTask).2) ∧
    decodePair ⟨0xFFFFFFFF, 12⟩ = .ok (.task 0xFFF) := ⟨rfl, rfl, rfl, rfl⟩
theorem witness_WaitingStep : takeHost (silent (rxc 0 1)) = (.quiet, silent (rxc 0 1)) ∧
    (silent (rxc 0 1)).awaits = true ∧ recv (silent (rxc 0 1)) = (none, (recv (silent (rxc 0 1))).2) :=
  ⟨rfl, rfl, rfl⟩
theorem witness_Recv_first : (ans idle (some ⟨0, 0⟩)).answers = List.replicate 0 none ++ some ⟨0, 0⟩ :: [] ∧
    0 < idle.params.pollRounds * idle.params.pollIters := by decide
theorem witness_Recv_last : ({ idle with answers := [none, none, none, none, none, some ⟨0, 63⟩] } : State).answers =
    List.replicate 5 none ++ some ⟨0, 63⟩ :: [] ∧ 5 < pars.pollRounds * pars.pollIters ∧
    ¬6 < pars.pollRounds * pars.pollIters := by decide
theorem witness_Recv_none : (silent idle).answers =
    List.replicate (idle.params.pollRounds * idle.params.pollIters) none ++ [] := by decide
theorem witness_ReceiveAck : recv (ans idle (some ⟨0xFFFFFFFF, 13⟩)) =
    (some ⟨0xFFFFFFFF, 13⟩, (recv (ans idle (some ⟨0xFFFFFFFF, 13⟩))).2) := rfl
theorem witness_PollOnce : (ans idle none).answers = none :: [] ∧ idle.answers = [] := ⟨rfl, rfl⟩
theorem witness_AcceptChecks_tags : tagToKind 17 = none ∧ tagToKind 12 = some .task ∧ Kind.task ≠ Kind.ack := by
  decide
theorem witness_AcceptChecks_valid : tagToKind 14 = some .quantity ∧ payloadValid .quantity 64 0 0 = true := by
  decide
theorem witness_AcceptChecks_invalid : payloadValid .quantity 65 0 0 = false ∧
    payloadValid .checksum 1 0 0 = false ∧ payloadValid .terminator 0x7FFF 0 0 = false ∧
    payloadValid .ack 0 0 0 = false ∧ tagToKind 16 = some .checksum ∧ tagToKind 15 = some .terminator ∧
    tagToKind 13 = some .ack := by decide
theorem witness_AffineLaw : checksum Config.crcDefault (0 ^^^ BitVec.twoPow 32 0 ^^^ BitVec.twoPow 32 31) ≠
    checksum Config.crcDefault 0 := by decide +kernel
theorem witness_UndetectedCorruption : (rcv .pData 63 .uRx false 7 64).role = .receiver ∧
    (rcv .pData 63 .uRx false 7 64).phase = .pData ∧ (rcv .pData 63 .uRx false 7 64).ustep = .uRx ∧
    (rcv .pData 63 .uRx false 7 64).idx.toNat < 64 ∧
    (rcv .pData 63 .uRx false 7 64).params.crc = Config.crcDefault := by decide
theorem witness_AckLaws : (0 : Task) ≠ 0xFFF ∧ decodeStatus 0xFFF = false ∧
    encodeAck 0xFFF false = encodeAck 0xFFF false := by decide
theorem witness_Send_write : takeHost { idle with host := [.write 0 0xFFFFFFFD] } = (.write 0 0xFFFFFFFD, idle) ∧
    (0xFFFFFFFD : Word).toNat % 4 = 1 := ⟨rfl, rfl⟩
theorem witness_Send : idle.statusBusy = false ∧ ({ idle with opQty := 64 } : State).opQty.toNat ≤ 64 ∧
    64 < ({ idle with opQty := 65 } : State).opQty.toNat := by decide
theorem witness_Receive : idle.statusBusy = false ∧
    takeHost { idle with host := [.write 0 2] } = (.write 0 2, idle) ∧ (2 : Word).toNat % 4 = 2 := ⟨rfl, rfl, rfl⟩
theorem witness_Ignored : (snd .pFail 0 .uTx 0 0).statusBusy = true ∧
    takeHost { idle with host := [.write 0 3] } = (.write 0 3, idle) ∧ (3 : Word).toNat % 4 = 3 ∧
    (0xFFFFFFFC : Word).toNat % 4 = 0 := ⟨rfl, rfl, rfl, rfl⟩

/-- The hypotheses of ReceiverTakesAwaitedFrames in each phase, and the two quantities at their boundary. -/
theorem witness_ReceiverTakes : (rcv .pTask 0 .uRx false 7 0).role = .receiver ∧
    (rcv .pTask 0 .uRx false 7 0).ustep = .uRx ∧ (rcv .pTask 0 .uRx false 7 0).phase = .pTask ∧
    (rcv .pQty 0 .uRx false 7 0).phase = .pQty ∧ (rcv .pData 0 .uRx false 7 1).phase = .pData ∧
    (rcv .pTerm 0 .uRx false 7 0).phase = .pTerm ∧ (64 : BitVec 14).toNat ≤ 64 ∧ 64 < (65 : BitVec 14).toNat := by
  decide
theorem witness_ReceiverStores : (rxc 63 64).role = .receiver ∧ (rxc 63 64).phase = .pData ∧
    (rxc 63 64).ustep = .uRxc ∧ (rxc 63 64).idx.toNat < 64 ∧ 0x30EC = (rxc 63 64).crc ∧ 0x30ED ≠ (rxc 63 64).crc := by
  decide
theorem witness_SenderAdvances : (snd .pTerm 0 .uRx 5 0).role = .sender ∧ (snd .pTerm 0 .uRx 5 0).ustep = .uRx ∧
    (snd .pTerm 0 .uRx 5 0).phase = .pTerm ∧ (snd .pTask 0 .uRx 1 0).phase = .pTask ∧
    (snd .pQty 0 .uRx 1 1).phase = .pQty ∧ 0 < (snd .pQty 0 .uRx 1 1).q.toNat ∧ (snd .pQty 0 .uRx 1 0).q = 0 ∧
    (snd .pData 62 .uRx 1 64).idx.toNat + 1 < (snd .pData 62 .uRx 1 64).q.toNat ∧
    (snd .pData 63 .uRx 1 64).idx.toNat + 1 = (snd .pData 63 .uRx 1 64).q.toNat := by decide
theorem witness_MismatchedAck : (snd .pTerm 0 .uRx 4 0).role = .sender ∧ activePhase .pTerm = true ∧
    (snd .pTerm 0 .uRx 4 0).ustep = .uRx ∧ (8 : Task) ≠ (snd .pTerm 0 .uRx 4 0).t ∧
    (snd .pTerm 0 .uRx 4 0).att.toNat < 5 ∧ (snd .pTerm 0 .uRx 5 0).att.toNat = 5 := by decide
theorem witness_OtherKind : frameKind .term = some .terminator ∧
    expected (rxc 0 1).role (rxc 0 1).phase (rxc 0 1).ustep = some .checksum ∧
    expected .sender .pData .uRx = some .ack ∧ (snd .pData 0 .uRx 4 1).att.toNat < 5 ∧
    (snd .pData 0 .uRx 5 1).att.toNat = 5 := by decide
theorem witness_Unawaited : Instr.term.format = .frame ∧ idle.awaits = false ∧
    (snd .pTask 0 .uTx 0 0).awaits = false := by decide
theorem witness_SenderTransmits : takeHost (snd .pData 63 .uTx 4 64) = (.quiet, snd .pData 63 .uTx 4 64) ∧
    (snd .pData 63 .uTx 4 64).role = .sender ∧ (snd .pData 63 .uTx 4 64).ustep = .uTx ∧
    (snd .pData 63 .uTx 4 64).phase = .pData ∧ (snd .pData 63 .uTx 4 64).idx.toNat < 64 ∧
    (snd .pTask 0 .uTx 0 0).phase = .pTask ∧ (snd .pQty 0 .uTx 0 0).phase = .pQty ∧
    (snd .pTerm 0 .uTx 0 0).phase = .pTerm := by refine ⟨rfl, ?_⟩; decide
theorem witness_SenderTransmitsTheChecksum : takeHost (snd .pData 0 .uTxc 1 1) = (.quiet, snd .pData 0 .uTxc 1 1) ∧
    (snd .pData 0 .uTxc 1 1).role = .sender ∧ (snd .pData 0 .uTxc 1 1).phase = .pData ∧
    (snd .pData 0 .uTxc 1 1).ustep = .uTxc := ⟨rfl, rfl, rfl, rfl⟩
theorem witness_SenderTransmitsTheUnit :
    takeHost { snd .pData 63 .uTx 4 64 with host := [.quiet] } = (.quiet, snd .pData 63 .uTx 4 64) ∧
    takeHost (snd .pData 63 .uTx 4 64) = (.quiet, snd .pData 63 .uTx 4 64) ∧ (snd .pData 63 .uTx 4 64).role = .sender ∧
    (snd .pData 63 .uTx 4 64).phase = .pData ∧ (snd .pData 63 .uTx 4 64).ustep = .uTx ∧
    (snd .pData 63 .uTx 4 64).idx.toNat < 64 := ⟨rfl, rfl, rfl, rfl, rfl, by decide⟩

/-- The states of the three clauses of SenderWaitsAndJudges: a validating answer, silence at the fourth attempt and
silence at the fifth. -/
theorem witness_SenderWaits : takeHost (ans (snd .pTerm 0 .uRx 5 0) (some ⟨0x1007, 13⟩)) =
      (.quiet, ans (snd .pTerm 0 .uRx 5 0) (some ⟨0x1007, 13⟩)) ∧
    (recv (ans (snd .pTerm 0 .uRx 5 0) (some ⟨0x1007, 13⟩))).1 = some ⟨0x1007, 13⟩ ∧
    (0x1007 : Word).toNat % 2 ^ 13 = 0x1000 + (snd .pTerm 0 .uRx 5 0).t.toNat ∧
    (recv (silent (snd .pTask 0 .uRx 4 0))).1 = none ∧ (snd .pTask 0 .uRx 4 0).att.toNat < 5 ∧
    (recv (silent (snd .pTask 0 .uRx 5 0))).1 = none ∧ (snd .pTask 0 .uRx 5 0).att.toNat = 5 :=
  ⟨rfl, rfl, rfl, rfl, by decide, rfl, rfl⟩

/-- A wait in each Receiver phase, with the frame of each clause of the five ReceiverWaits statements. -/
theorem witness_ReceiverWaitsForTheTask : takeHost rxTask = (.quiet, rxTask) ∧ rxTask.role = .receiver ∧
    rxTask.phase = .pTask ∧ rxTask.ustep = .uRx ∧ (recv rxTask).1 = some ⟨0xFFFFFFFF, 12⟩ ∧
    (recv (ans rxTask (some ⟨0, 13⟩))).1 = some ⟨0, 13⟩ ∧ (13 : Tag) ≠ 12 := ⟨rfl, rfl, rfl, rfl, rfl, rfl, by decide⟩

/-- A Receiver that awaits a quantity, with an answer. -/
def rxQty (v : Word) : State := ans (rcv .pQty 0 .uRx false 7 0) (some ⟨v, 14⟩)

theorem witness_ReceiverWaitsForTheQuantity : takeHost (rxQty 0x4040) = (.quiet, rxQty 0x4040) ∧
    (rxQty 0x4040).role = .receiver ∧ (rxQty 0x4040).phase = .pQty ∧ (rxQty 0x4040).ustep = .uRx ∧
    (recv (rxQty 0x4040)).1 = some ⟨0x4040, 14⟩ ∧ (0x4040 : Word).toNat % 2 ^ 14 ≤ 64 ∧
    (recv (rxQty 65)).1 = some ⟨65, 14⟩ ∧ 64 < (65 : Word).toNat % 2 ^ 14 ∧
    (recv (silent (rxQty 0))).1 = none := ⟨rfl, rfl, rfl, rfl, rfl, by decide, rfl, by decide, rfl⟩

/-- A Receiver that awaits a word, with an answer of a tag. -/
def rxData (w : Tag) : State := ans (rcv .pData 63 .uRx false 7 64) (some ⟨0x30EC, w⟩)

theorem witness_ReceiverWaitsForTheWord : takeHost (rxData 32) = (.quiet, rxData 32) ∧
    (rxData 32).role = .receiver ∧ (rxData 32).phase = .pData ∧ (rxData 32).ustep = .uRx ∧
    (recv (rxData 32)).1 = some ⟨0x30EC, 32⟩ ∧ (recv (rxData 16)).1 = some ⟨0x30EC, 16⟩ :=
  ⟨rfl, rfl, rfl, rfl, rfl, rfl⟩
theorem witness_ReceiverWaitsForTheChecksum :
    takeHost (ans (rxc 63 64) (some ⟨0x130EC, 16⟩)) = (.quiet, ans (rxc 63 64) (some ⟨0x130EC, 16⟩)) ∧
    (rxc 63 64).role = .receiver ∧ (rxc 63 64).phase = .pData ∧ (rxc 63 64).ustep = .uRxc ∧
    (rxc 63 64).idx.toNat < 64 ∧ (recv (ans (rxc 63 64) (some ⟨0x130EC, 16⟩))).1 = some ⟨0x130EC, 16⟩ ∧
    (0x130EC : Word).toNat % 2 ^ 16 = (rxc 63 64).crc.toNat ∧
    (recv (ans (rxc 63 64) (some ⟨0x30ED, 16⟩))).1 = some ⟨0x30ED, 16⟩ ∧
    (0x30ED : Word).toNat % 2 ^ 16 ≠ (rxc 63 64).crc.toNat ∧ (recv (silent (rxc 63 64))).1 = none :=
  ⟨rfl, rfl, rfl, rfl, by decide, rfl, by decide, rfl, by decide, rfl⟩

/-- A Receiver that awaits the Terminator, with an answer. -/
def rxTerm (v : Word) : State := ans (rcv .pTerm 0 .uRx false 7 0) (some ⟨v, 15⟩)

theorem witness_ReceiverWaitsForTheTerminator : takeHost (rxTerm 0x8E2D) = (.quiet, rxTerm 0x8E2D) ∧
    (rxTerm 0x8E2D).role = .receiver ∧ (rxTerm 0x8E2D).phase = .pTerm ∧ (rxTerm 0x8E2D).ustep = .uRx ∧
    (recv (rxTerm 0x8E2D)).1 = some ⟨0x8E2D, 15⟩ ∧ (0x8E2D : Word).toNat % 2 ^ 15 = 0xE2D ∧
    (recv (rxTerm 0xE2C)).1 = some ⟨0xE2C, 15⟩ ∧ (0xE2C : Word).toNat % 2 ^ 15 ≠ 0xE2D ∧
    (recv (silent (rxTerm 0))).1 = none := ⟨rfl, rfl, rfl, rfl, rfl, rfl, rfl, by decide, rfl⟩

/-- A Receiver about to send its negative acknowledgment in P_TASK. -/
def nacking : State := rcv .pTask 0 .uTxa false 0xBAD 0

theorem nacking_inv : Inv nacking := by constructor <;> decide +kernel
theorem witness_ReceiverAcknowledges : takeHost nacking = (.quiet, nacking) ∧ nacking.role = .receiver ∧
    activePhase nacking.phase = true ∧ nacking.ustep = .uTxa ∧ nacking.ackok = false ∧ nacking.phase = .pTask ∧
    Inv nacking ∧ (rcv .pTerm 63 .uTxa true 7 64).ackok = true :=
  ⟨rfl, rfl, rfl, rfl, rfl, rfl, nacking_inv, rfl⟩
theorem witness_Completion : takeHost (snd .pDone 0 .uTx 0 0) = (.quiet, snd .pDone 0 .uTx 0 0) ∧
    (snd .pDone 0 .uTx 0 0).role = .sender ∧ (rcv .pDone 0 .uRx false 7 0).role = .receiver ∧
    (rcv .pFail 0 .uTxa false 7 0).role ≠ .idle ∧ (rcv .pFail 0 .uTxa false 7 0).phase = .pFail :=
  ⟨rfl, rfl, rfl, by decide, rfl⟩
theorem witness_Phases : (0 : Nat) < (1 : Count).toNat ∧ (62 : Count).toNat + 1 < (64 : Count).toNat ∧
    (63 : Count).toNat + 1 = (64 : Count).toNat ∧ (takeHost rxTask).1 = .quiet ∧ (nx (step rxTask)).isSome = true ∧
    activePhase rxTask.phase = true := by
  refine ⟨by decide, by decide, by decide, rfl, ?_, rfl⟩; decide +kernel
theorem witness_Reset : ({ rxTask with host := [.reset] } : State).host = .reset :: [] ∧
    takeHost idle = (.quiet, idle) ∧ idle.role = .idle := ⟨rfl, rfl, rfl⟩
theorem witness_HostReads : takeHost { idle with host := [.read 1] } = (.read 1, idle) ∧
    takeHost { rxTask with host := [.read 63] } = (.read 63, rxTask) ∧
    takeHost { rxTask with host := [.read 128] } = (.read 128, rxTask) ∧
    takeHost { idle with host := [.read 127] } = (.read 127, idle) ∧
    takeHost { rxTask with host := [.read 64, .read 64] } = (.read 64, { rxTask with host := [.read 64] }) ∧
    takeHost { rxTask with host := [.read 64] } = (.read 64, rxTask) ∧ rxTask.role = .receiver :=
  ⟨rfl, rfl, rfl, rfl, rfl, rfl, rfl⟩
theorem witness_HostWrites : takeHost { idle with host := [.write 2 0xFFFFF123] } = (.write 2 0xFFFFF123, idle) ∧
    takeHost { idle with host := [.write 3 0xFF] } = (.write 3 0xFF, idle) ∧
    takeHost { idle with host := [.write 63 1] } = (.write 63 1, idle) ∧
    takeHost { idle with host := [.write 128 1] } = (.write 128 1, idle) := ⟨rfl, rfl, rfl, rfl⟩
theorem witness_HostWritesMsgbuf : takeHost { idle with host := [.write 127 1] } = (.write 127 1, idle) ∧
    takeHost { rxTask with host := [.write 64 1] } = (.write 64 1, rxTask) ∧ idle.role ≠ .receiver ∧
    rxTask.role = .receiver := ⟨rfl, rfl, by decide, rfl⟩

/-- The boundary reads and writes of the host port (section 2.6). -/
theorem test_host_port : fld (step { snd .pTask 0 .uTx 0 2 with host := [.read 1] }) State.hostRd = some 1 ∧
    fld (step { snd .pTask 0 .uTx 0 2 with host := [.read 64] }) State.hostRd = some 0x12345678 ∧
    fld (step { idle with host := [.read 63] }) State.hostRd = some 0 ∧
    fld (step { rxc 1 2 with msgbuf := [(0, 5)], host := [.read 64] }) (fun t => (t.hostRd, t.msgbuf)) =
      some (5, [(0, 5)]) ∧
    fld (step { idle with host := [.write 127 9] }) State.msgbuf = some [(63, 9)] ∧
    fld (step { idle with host := [.write 128 9] }) State.msgbuf = some [] := by decide +kernel

/-- A Receiver that has checked a word and awaits nothing more than its acknowledgment: a state of the invariant. -/
def checked : State := ans (rxc 63 64) (some ⟨0x30EC, 16⟩)

theorem checked_inv : Inv checked := by constructor <;> decide +kernel
theorem idle_inv : Inv idle := by constructor <;> decide +kernel
theorem witness_EveryStepKeepsTheInvariant : Inv checked ∧ (nx (step checked)).isSome = true := by
  refine ⟨checked_inv, ?_⟩; decide +kernel
theorem witness_EveryInstructionKeepsTheInvariant : Inv checked ∧ (nx (exec (.csum 0x30EC) checked)).isSome = true := by
  refine ⟨checked_inv, ?_⟩; decide +kernel
/-- A host about to misuse MSGBUF during a RECEIVE. -/
def misused : State := { checked with host := [.write 64 1] }

theorem misused_inv : Inv misused := by constructor <;> decide +kernel
theorem witness_EveryStepIsSafe : Inv checked ∧ Inv misused ∧ hostMisuse misused ∧
    step misused = .refused .msgbufWriteDuringReceive :=
  ⟨checked_inv, misused_inv, ⟨64, 1, [], rfl, rfl, rfl⟩, rfl⟩
theorem witness_BusyEnds : (snd .pDone 0 .uTx 0 0).role ≠ .idle ∧ (snd .pDone 0 .uTx 0 0).statusBusy = true ∧
    fld (step (snd .pDone 0 .uTx 0 0)) (fun t => (t.role, t.statusBusy)) = some (.idle, false) ∧
    fld (step (rcv .pFail 0 .uTxa false 7 0)) (fun t => (t.role, t.statusBusy)) = some (.idle, false) ∧
    fld (step { rxTask with host := [.reset] }) (fun t => (t.role, t.statusBusy)) = some (.idle, false) := by
  decide +kernel
theorem witness_Results : (takeHost (rcv .pDone 0 .uRx false 7 64)).1 ≠ .reset ∧
    fld (step (rcv .pDone 0 .uRx false 7 64)) (fun t => (t.resTask, t.resQty)) = some (7, 64) ∧
    fld (step (rcv .pFail 0 .uTxa false 7 64)) (fun t => (t.resTask, t.resQty)) = some (0, 0) := by decide +kernel
theorem witness_EngineWrites : (takeHost { checked with msgbuf := [(63, 0)] }).1 = .quiet ∧
    fld (step { checked with msgbuf := [(63, 0)] }) (fun t => t.msgWord 63) = some 0x12345678 ∧
    ({ checked with msgbuf := [(63, 0)] } : State).msgWord 63 = 0 := by decide +kernel
theorem witness_TransmittedFrames : (takeHost (rcv .pTerm 0 .uTxa true 0xFFF 0)).1 ≠ .reset ∧
    fld (step (rcv .pTerm 0 .uTxa true 0xFFF 0)) State.trace = some [.tx 0x1FFF 13, .wait 50] := by decide +kernel
theorem witness_Operands : (takeHost (snd .pQty 0 .uTx 0 64)).1 = .quiet ∧
    (nx (step (snd .pQty 0 .uTx 0 64))).isSome = true := by decide +kernel

/-- The three outcomes that GhostValuesAreInert speaks of. -/
theorem witness_Ghost : (nx (step rxTask)).isSome = true ∧
    step (snd .pTask 0 .uTxa 1 0) = .fault .illegalPosition ∧
    step { rxTask with host := [.write 64 1] } = .refused .msgbufWriteDuringReceive := by
  refine ⟨?_, rfl, rfl⟩; decide +kernel
theorem witness_EveryExchangeEnds : Inv checked ∧ checked.role ≠ .idle ∧ checked.host = [] :=
  ⟨checked_inv, by decide, rfl⟩

/-- A Sender of the last word of 64, nobody at the other end for five windows. -/
def unheard : State := { snd .pData 63 .uTx 0 64 with answers := List.replicate 30 none }

theorem witness_SenderGivesUp : unheard.role = .sender ∧ activePhase unheard.phase = true ∧ unheard.ustep = .uTx ∧
    unheard.att = 0 ∧ unheard.idx.toNat < 64 ∧ unheard.host = [] ∧ (∀ f ∈ unheard.answers, neverAcks unheard.t f) ∧
    5 * (unheard.params.pollRounds * unheard.params.pollIters) ≤ unheard.answers.length := by
  refine ⟨rfl, rfl, rfl, rfl, by decide, rfl, ?_, by decide⟩
  intro f hf x hx
  rw [(List.mem_replicate.mp hf).2] at hx
  cases hx

/-- Frames that never acknowledge task 7: a negative acknowledgment, one of another task, and another kind. -/
theorem witness_neverAcks : neverAcks 7 (some ⟨7, 13⟩) ∧ neverAcks 7 (some ⟨0x1008, 13⟩) ∧
    neverAcks 7 (some ⟨0x1007, 12⟩) ∧ ¬neverAcks 7 (some ⟨0xFFFFF007, 13⟩) := by
  refine ⟨?_, ?_, ?_, ?_⟩
  · intro x hx; cases hx; decide
  · intro x hx; cases hx; decide
  · intro x hx; cases hx; decide
  · intro h; exact h _ rfl (by decide)

/-- A Receiver that awaits a Task frame, opposite a peer. -/
def link (peer right : State) (q : List Frame) : Link := { left := peer, right := right, toRight := q, toLeft := [] }

/-- P12: a Receiver whose peer is at rest ends its wait by MISS. -/
theorem test_window_closes :
    (linkStep false (link idle (rcv .pTask 0 .uRx false 0xBAD 0) [])).right.cause = some .miss := by decide +kernel
/-- R50: no timeout fires while the peer is about to transmit; the peer moves instead. -/
theorem test_window_open : (linkStep false (link (snd .pTask 0 .uTx 0 2) (rcv .pTask 0 .uRx false 0xBAD 0) [])).toRight =
    [⟨7, 12⟩] := by decide +kernel
/-- R50: a host access of a waiting end polls nothing, and the frame stays in the queue. -/
theorem test_host_keeps_queue :
    (linkStep false (link idle { rcv .pTask 0 .uRx false 0xBAD 0 with host := [.read 1] } [⟨7, 12⟩])).toRight =
      [⟨7, 12⟩] := by decide +kernel

/-- The two ends of P12: a SEND of 65 words, and the shortest schedule. -/
theorem witness_Loopback_refused : Inv { idle with opQty := 65 } ∧
    64 < ({ idle with opQty := 65 } : State).opQty.toNat ∧ 4 ≤ [false, false, true, true].length :=
  ⟨by constructor <;> decide +kernel, by decide, by decide⟩
/-- The two ends of P1 and of an exchange of 64 words. -/
theorem witness_Loopback : Inv idle ∧ Inv { idle with opQty := 64 } ∧ idle.role = .idle ∧ idle.host = [] ∧
    idle.opQty.toNat ≤ 64 ∧ ({ idle with opQty := 64 } : State).opQty.toNat ≤ 64 ∧
    6 * (64 : Count).toNat + 14 ≤ (List.replicate 398 true).length :=
  ⟨idle_inv, by constructor <;> decide +kernel, rfl, rfl, by decide, by decide, by decide +kernel⟩

end Sys2Proof.Tests
end

/-! SUPPORT. The host port (spec/10_state.md R11, R12): what a step does for each host access, and the obligations about
the registers, the commands and the fetched instruction. -/

namespace Sys2Proof.Machine

/-! ## The host's accesses -/

/-- The state with the host's next access used up. -/
def State.hostTaken (s : State) : State := { s with host := s.host.tail }

/-- Taking the host's next access changes the list of accesses and nothing else. -/
theorem takeHost_snd (s : State) : (takeHost s).2 = s.hostTaken := by
  obtain ⟨hh, h⟩ | ⟨ev, rest, hh, h⟩ := takeHost_cases s
  · rw [h, State.hostTaken, hh, List.tail_nil, ← hh]
  · rw [h, State.hostTaken, hh, List.tail_cons]

/-- The host's next access depends on the list of accesses alone. -/
theorem takeHost_fst (s : State) : (takeHost s).1 = s.host.headD .quiet := by
  obtain ⟨hh, h⟩ | ⟨ev, rest, hh, h⟩ := takeHost_cases s <;> rw [h, hh] <;> rfl

/-- The state with an access taken, for a step whose access is known. -/
theorem eq_hostTaken {s s' : State} {ev : HostEvent} (h : takeHost s = (ev, s')) : s' = s.hostTaken := by
  rw [← takeHost_snd, h]

/-- The port's answer has no part in taking the host's next access. -/
theorem takeHost_hostRd {s s' : State} {ev : HostEvent} (v : Word) (h : takeHost s = (ev, s')) :
    takeHost { s with hostRd := v } = (ev, { s' with hostRd := v }) := by
  unfold takeHost at h ⊢
  split at h <;> next hh => cases h; simp only [hh]

theorem step_write {s s' : State} {n : Nat} {v : Word} (h : takeHost s = (.write n v, s')) :
    step s = hostWrite n v s' := step_of_event s s' _ h

theorem step_read {s s' : State} {n : Nat} (h : takeHost s = (.read n, s')) :
    step s = .next { s' with hostRd := s'.readReg n } := step_of_event s s' _ h

theorem step_quiet {s s' : State} (h : takeHost s = (.quiet, s')) : step s = engineStep s' := step_of_event s s' _ h

/-- A host write to CMD: the action, then the command (R12). -/
theorem step_writeCmd {s s' : State} {v : Word} (h : takeHost s = (.write 0 v, s')) :
    step s = exec (decodeCommand (v.setWidth 2)) (s'.emit (.cmd (v.setWidth 2))) := step_write h

/-! ## The registers a host access reaches -/

theorem isMsgbufNumber_iff (n : Nat) : isMsgbufNumber n = true ↔ 64 ≤ n ∧ n < 128 := by
  rw [isMsgbufNumber, Bool.and_eq_true, decide_eq_true_eq, decide_eq_true_eq]; rfl

/-- The numbers of R11 that no register answers to. -/
def unimplemented (n : Nat) : Prop := 6 ≤ n ∧ n < 64 ∨ 128 ≤ n

theorem isMsgbufNumber_of_unimplemented {n : Nat} (h : unimplemented n) : isMsgbufNumber n = false := by
  rw [Bool.eq_false_iff, ne_eq, isMsgbufNumber_iff]
  unfold unimplemented at h
  omega

theorem readReg_msgbuf (s : State) {n : Nat} (h : isMsgbufNumber n = true) : s.readReg n = s.msgWord (n - 64) := by
  have hn := (isMsgbufNumber_iff n).mp h
  simp [State.readReg, h, msgbufBase, show n ≠ 1 ∧ n ≠ 2 ∧ n ≠ 3 ∧ n ≠ 4 ∧ n ≠ 5 by omega]

theorem readReg_unimplemented (s : State) {n : Nat} (h : unimplemented n) : s.readReg n = 0 := by
  have hn : n ≠ 1 ∧ n ≠ 2 ∧ n ≠ 3 ∧ n ≠ 4 ∧ n ≠ 5 := by unfold unimplemented at h; omega
  simp [State.readReg, isMsgbufNumber_of_unimplemented h, hn]

/-- STATUS has OK, DONE and BUSY at the weights 4, 2 and 1 (R13). -/
theorem statusWord_toNat (s : State) :
    (s.statusWord.setWidth 32 : Word).toNat = s.statusBusy.toNat + 2 * s.statusDone.toNat + 4 * s.statusOk.toNat := by
  unfold State.statusWord
  cases s.statusBusy <;> cases s.statusDone <;> cases s.statusOk <;> rfl

/-- A write to a number that is no writable register is ignored (R11). -/
theorem hostWrite_ignored (s : State) (n : Nat) (v : Word) (h : n = 1 ∨ n = 4 ∨ n = 5 ∨ unimplemented n) :
    hostWrite n v s = .next s := by
  have hm : isMsgbufNumber n = false := by
    rw [Bool.eq_false_iff, ne_eq, isMsgbufNumber_iff]
    unfold unimplemented at h
    omega
  have hn : n ≠ 0 ∧ n ≠ 2 ∧ n ≠ 3 := by unfold unimplemented at h; omega
  simp [hostWrite, hm, hn]

/-- A write to a word of MSGBUF outside a RECEIVE (R11). -/
theorem hostWrite_msgbuf {s : State} {n : Nat} (v : Word) (h : isMsgbufNumber n = true) (hr : s.role ≠ .receiver) :
    hostWrite n v s = .next (s.setMsgWord (n - 64) v) := by
  have hn := (isMsgbufNumber_iff n).mp h
  simp [hostWrite, h, hr, msgbufBase, show n ≠ 0 ∧ n ≠ 2 ∧ n ≠ 3 by omega]

/-- A write to a word of MSGBUF during a RECEIVE is refused (R34, log 7). -/
theorem hostWrite_refused {s : State} {n : Nat} (v : Word) (h : isMsgbufNumber n = true) (hr : s.role = .receiver) :
    hostWrite n v s = .refused .msgbufWriteDuringReceive := by
  have hn := (isMsgbufNumber_iff n).mp h
  simp [hostWrite, h, hr, show n ≠ 0 ∧ n ≠ 2 ∧ n ≠ 3 by omega]

/-- All that a host write can do: a command, one of the two operands, a word of MSGBUF outside a RECEIVE, nothing, or
the refusal of a word of MSGBUF during a RECEIVE. -/
theorem hostWrite_cases (n : Nat) (v : Word) (s : State) :
    (n = 0 ∧ hostWrite n v s = exec (decodeCommand (v.setWidth 2)) (s.emit (.cmd (v.setWidth 2)))) ∨
    hostWrite n v s = .next { s with opTask := v.setWidth 12 } ∨
    hostWrite n v s = .next { s with opQty := v.setWidth 7 } ∨
    (∃ i, i < Config.msgbufWords ∧ hostWrite n v s = .next (s.setMsgWord i v)) ∨
    hostWrite n v s = .next s ∨
    (isMsgbufNumber n = true ∧ s.role = .receiver ∧ hostWrite n v s = .refused .msgbufWriteDuringReceive) := by
  by_cases hm : isMsgbufNumber n = true
  · by_cases hr : s.role = .receiver
    · exact .inr (.inr (.inr (.inr (.inr ⟨hm, hr, hostWrite_refused v hm hr⟩))))
    · have hn := (isMsgbufNumber_iff n).mp hm
      exact .inr (.inr (.inr (.inl ⟨n - 64, by simp [Config.msgbufWords]; omega, hostWrite_msgbuf v hm hr⟩)))
  · unfold hostWrite
    split
    · next h0 => exact .inl ⟨h0, rfl⟩
    · split
      · exact .inr (.inl rfl)
      · split
        · exact .inr (.inr (.inl rfl))
        · exact .inr (.inr (.inr (.inr (.inl rfl))))

/-! ## The commands -/

/-- Code 1 is SEND, read from the two low bits of what the host writes (R11, R72). -/
theorem setWidth_two_eq (v : Word) (c : CmdCode) (h : v.toNat % 4 = c.toNat) : v.setWidth 2 = c := by
  apply BitVec.eq_of_toNat_eq
  simpa using h

theorem exec_send_idle {s : State} (h : s.statusBusy = false) : exec .send s = .next (acceptSend s) := by
  simp [exec, execSend, h]

theorem exec_send_busy {s : State} (h : s.statusBusy = true) : exec .send s = .next s := by
  simp [exec, execSend, h]

theorem exec_receive_idle {s : State} (h : s.statusBusy = false) : exec .receive s = .next (acceptReceive s) := by
  simp [exec, execReceive, h]

theorem exec_receive_busy {s : State} (h : s.statusBusy = true) : exec .receive s = .next s := by
  simp [exec, execReceive, h]

theorem exec_nop (s : State) : exec .nop s = .next s := rfl

theorem exec_reserved3 (s : State) : exec .reserved3 s = .next s := rfl

theorem acceptSend_legal {s : State} (h : s.opQty.toNat ≤ 64) :
    acceptSend s = acceptCommand .sender { s with t := s.opTask, q := s.opQty, phase := .pTask, ustep := .uTx } := by
  simp [acceptSend, qtyLegal, Config.maxQty, h]

/-- A SEND of more than 64 words fails in its acceptance (R126). -/
theorem acceptSend_refused {s : State} (h : 64 < s.opQty.toNat) :
    acceptSend s = { acceptCommand .sender { s with t := s.opTask, q := s.opQty, ustep := .uTx } with
      phase := .pFail, cause := some .operandRange } := by
  simp [acceptSend, qtyLegal, Config.maxQty, Nat.not_le.mpr h, failStep, acceptCommand]

/-- All that a CMD code can do: nothing, or, while the engine is not busy, an acceptance. -/
theorem exec_command_cases (c : CmdCode) (s : State) :
    exec (decodeCommand c) s = .next s ∨
    (s.statusBusy = false ∧ (exec (decodeCommand c) s = .next (acceptSend s) ∨
      exec (decodeCommand c) s = .next (acceptReceive s))) := by
  unfold decodeCommand
  split
  · exact .inl (exec_nop s)
  · split
    · cases hb : s.statusBusy with
      | true => exact .inl (exec_send_busy hb)
      | false => exact .inr ⟨rfl, .inl (exec_send_idle hb)⟩
    · split
      · cases hb : s.statusBusy with
        | true => exact .inl (exec_receive_busy hb)
        | false => exact .inr ⟨rfl, .inr (exec_receive_idle hb)⟩
      · exact .inl (exec_reserved3 s)

/-! ## The obligations about the host port -/

/-- Settles O44: the reset state evaluated. -/
theorem registersAfterReset : Obligations.RegistersAfterReset := by
  unfold Obligations.RegistersAfterReset
  decide

/-- Settles O45: one read through `readReg`, which the port's own answer does not change. -/
theorem hostReadsRegisters : Obligations.HostReadsRegisters := by
  intro s s' n h
  obtain rfl := eq_hostTaken h
  refine ⟨s.readReg n, step_read h, ?_, ?_, ?_, ?_, ?_, ?_, ?_, ?_, ?_⟩
  · rintro rfl; rfl
  · rintro rfl; exact statusWord_toNat s
  · rintro rfl; rfl
  · rintro rfl; rfl
  · rintro rfl; rfl
  · rintro rfl; rfl
  · intro hlo hhi; exact readReg_msgbuf s ((isMsgbufNumber_iff n).mpr ⟨hlo, hhi⟩)
  · exact readReg_unimplemented s
  · intro s'' h''
    obtain rfl := eq_hostTaken h''
    exact (step_read (takeHost_hostRd (s.readReg n) h'') :)

/-- Settles O46: the cases of the host's write that are no command and no word of MSGBUF. -/
theorem hostWritesRegisters : Obligations.HostWritesRegisters := by
  intro s s' n v h
  rw [step_write h]
  refine ⟨?_, ?_, ?_⟩
  · rintro rfl; rfl
  · rintro rfl; rfl
  · exact hostWrite_ignored s' n v

/-- Settles O47: the word written is read back, and every other word and every reset's free value stay. -/
theorem hostWritesMsgbuf : Obligations.HostWritesMsgbuf := by
  intro s s' n v h hlo hhi
  obtain rfl := eq_hostTaken h
  have hm : isMsgbufNumber n = true := (isMsgbufNumber_iff n).mpr ⟨hlo, hhi⟩
  rw [step_write h]
  refine ⟨fun hr => ⟨memSet s.msgbuf (n - 64) v, hostWrite_msgbuf v hm hr, fun i => ?_⟩,
    fun hr => hostWrite_refused v hm hr⟩
  change (s.setMsgWord (n - 64) v).msgWord i = _
  split
  · next hi => rw [hi, msgWord_setMsgWord_same]
  · next hi => exact msgWord_setMsgWord_other s _ i v hi

/-! ## The obligations about the commands and the fetched instruction -/

/-- Settles O6: a write to CMD runs the command of its code, a waiting engine the instruction its frame encodes. -/
theorem stepRunsTheFetchedInstruction : Obligations.StepRunsTheFetchedInstruction := by
  refine ⟨fun s s' v h => step_writeCmd h, fun s s' s'' f i h hw hrecv hdec => ?_⟩
  rw [step_quiet h, engineStep_awaits s' hw, awaitStep_decoded s' s'' f i hrecv hdec]

/-- Settles O23: the acceptance with a legal quantity, and the one that fails at once. -/
theorem sendIsAccepted : Obligations.SendIsAccepted := by
  refine ⟨fun s s' v h hv => ?_, fun s hb => ⟨fun hq => ⟨none, ?_⟩, fun hq => ?_⟩⟩
  · rw [step_writeCmd h, setWidth_two_eq v 1 hv]; rfl
  · rw [exec_send_idle hb, acceptSend_legal hq]; rfl
  · rw [exec_send_idle hb, acceptSend_refused hq]; rfl

/-- Settles O24: the acceptance written out. -/
theorem receiveIsAccepted : Obligations.ReceiveIsAccepted := by
  refine ⟨fun s s' v h hv => ?_, fun s hb => ⟨none, ?_⟩⟩
  · rw [step_writeCmd h, setWidth_two_eq v 2 hv]; rfl
  · rw [exec_receive_idle hb]; rfl

/-- A busy engine ignores every CMD code (R12). -/
theorem exec_command_busy {s : State} (c : CmdCode) (hb : s.statusBusy = true) :
    exec (decodeCommand c) s = .next s := by
  obtain h | ⟨hidle, -⟩ := exec_command_cases c s
  · exact h
  · simp [hb] at hidle

/-- Settles O25: NOP, the reserved code, and every code while busy. -/
theorem ignoredCommandsChangeNothing : Obligations.IgnoredCommandsChangeNothing := by
  refine ⟨fun s => ⟨exec_nop s, exec_reserved3 s⟩, fun s hb => ⟨exec_send_busy hb, exec_receive_busy hb⟩,
    fun s s' v h hcode => ?_⟩
  obtain rfl := eq_hostTaken h
  rw [step_writeCmd h]
  obtain hb | h0 | h3 := hcode
  · exact exec_command_busy _ hb
  · rw [setWidth_two_eq v 0 h0]; rfl
  · rw [setWidth_two_eq v 3 h3]; rfl

end Sys2Proof.Machine

/-! SUPPORT. The engine's micro-steps: what RECV leaves alone, that a waiting micro-step is one judgement, and all the
moves an engine can make (spec/10_state.md R14). -/

namespace Sys2Proof.Machine

/-! ## RECV -/

/-- A register that RECV does not write is the same after it: RECV writes the answers left, the trace, the latch, PR and
PI alone (R115, R116). -/
theorem recv_keeps {α : Type} (g : State → α)
    (hg : ∀ (s : State) a p tr v w x, g { s with
      answers := a, polls := p, trace := tr, pr := 0, pi := 0, rxv := v, rxtag := w, rxval := x } = g s)
    (s : State) : g (recv s).2 = g s := by
  obtain ⟨a, p, tr, h⟩ := recv_spec s
  rw [h]
  cases (recv s).1 <;> exact hg s _ _ _ _ _ _

@[simp] theorem recv_statusBusy (s : State) : (recv s).2.statusBusy = s.statusBusy :=
  recv_keeps State.statusBusy (fun _ _ _ _ _ _ _ => rfl) s
@[simp] theorem recv_resTask (s : State) : (recv s).2.resTask = s.resTask :=
  recv_keeps State.resTask (fun _ _ _ _ _ _ _ => rfl) s
@[simp] theorem recv_resQty (s : State) : (recv s).2.resQty = s.resQty :=
  recv_keeps State.resQty (fun _ _ _ _ _ _ _ => rfl) s
@[simp] theorem recv_role (s : State) : (recv s).2.role = s.role :=
  recv_keeps State.role (fun _ _ _ _ _ _ _ => rfl) s
@[simp] theorem recv_phase (s : State) : (recv s).2.phase = s.phase :=
  recv_keeps State.phase (fun _ _ _ _ _ _ _ => rfl) s
@[simp] theorem recv_idx (s : State) : (recv s).2.idx = s.idx :=
  recv_keeps State.idx (fun _ _ _ _ _ _ _ => rfl) s
@[simp] theorem recv_ustep (s : State) : (recv s).2.ustep = s.ustep :=
  recv_keeps State.ustep (fun _ _ _ _ _ _ _ => rfl) s
@[simp] theorem recv_q (s : State) : (recv s).2.q = s.q :=
  recv_keeps State.q (fun _ _ _ _ _ _ _ => rfl) s

/-! ## The waiting micro-step -/

/-- Running the instruction a frame decodes to is judging a frame: the seven frame rows are the judgements (log 8). -/
theorem exec_of_decodePair {f : Frame} {i : Instr} (h : decodePair f = .ok i) :
    ∃ f', ∀ s, exec i s = judge (some f') s := by
  unfold decodePair at h
  simp only at h
  repeat' split at h
  all_goals cases h
  all_goals exact ⟨_, fun _ => rfl⟩

/-- A waiting micro-step is a judgement, of a frame or of silence, that what RECV returned alone decides. -/
theorem awaitStep_judges (o : Option Frame) : ∃ r, ∀ s s', recv s = (o, s') → awaitStep s = judge r s' := by
  cases o with
  | none => exact ⟨none, awaitStep_none⟩
  | some f =>
    rcases hd : decodePair f with e | i
    · exact ⟨some f, fun s s' h => awaitStep_undecoded s s' f e h hd⟩
    · obtain ⟨f', hf'⟩ := exec_of_decodePair hd
      exact ⟨some f', fun s s' h => (awaitStep_decoded s s' f i h hd).trans (hf' s')⟩

/-- A waiting micro-step is the judgement of some result, in the state RECV leaves. -/
theorem awaitStep_eq_judge (s : State) : ∃ r, awaitStep s = judge r (recv s).2 := by
  obtain ⟨r, hr⟩ := awaitStep_judges (recv s).1
  exact ⟨r, hr s _ rfl⟩

/-- A position awaits a frame when the engine awaits some kind there (R84). -/
theorem awaits_iff (s : State) : s.awaits = true ↔ ∃ k, expected s.role s.phase s.ustep = some k := by
  rw [State.awaits, ← expected_isSome, Option.isSome_iff_exists]

/-- A Sender waits at U_RX, in an active phase. -/
theorem sender_awaits {s : State} {k : Kind} (hr : s.role = .sender)
    (h : expected s.role s.phase s.ustep = some k) : activePhase s.phase = true ∧ s.ustep = .uRx := by
  rw [hr] at h
  revert h
  cases s.phase <;> cases s.ustep <;> simp [expected, activePhase]

/-- A Receiver waits at U_RX in an active phase, or at U_RXC in P_DATA. -/
theorem receiver_awaits {s : State} {k : Kind} (hr : s.role = .receiver)
    (h : expected s.role s.phase s.ustep = some k) :
    activePhase s.phase = true ∧ (s.ustep = .uRx ∨ s.ustep = .uRxc ∧ s.phase = .pData) := by
  rw [hr] at h
  revert h
  cases s.phase <;> cases s.ustep <;> simp [expected, activePhase]

/-! ## The moves of an engine -/

/-- All the moves an engine can make while the host is silent, one for each kind of micro-step. -/
inductive EngineMove (s : State) : State → Prop
  /-- An idle engine does nothing (R119, R191). -/
  | rest (hr : s.role = .idle) : EngineMove s s
  /-- The completion step (R140, R170). -/
  | complete (ok : Bool) (hr : s.role ≠ .idle) (hp : s.phase = if ok then .pDone else .pFail) :
      EngineMove s (complete ok s)
  /-- The Sender's U_TX in the phases of one frame (R129, R130, R132). -/
  | frame (v : Word) (w : Tag) (hr : s.role = .sender) (ha : activePhase s.phase = true) (hd : s.phase ≠ .pData)
      (hu : s.ustep = .uTx) : EngineMove s (xmit v w { s with att := s.att + 1, ustep := .uRx })
  /-- The Sender's U_TX in P_DATA (R131). -/
  | word (w : Tag) (hr : s.role = .sender) (hp : s.phase = .pData) (hu : s.ustep = .uTx) :
      EngineMove s (xmit (s.msgWord s.idx.toNat) w
        { s with dw := s.msgWord s.idx.toNat, att := s.att + 1, ustep := .uTxc })
  /-- The Sender's U_TXC (R133). -/
  | checksum (v : Word) (w : Tag) (hr : s.role = .sender) (hp : s.phase = .pData) (hu : s.ustep = .uTxc) :
      EngineMove s (xmit v w { s with crc := checksum s.params.crc s.dw, ustep := .uRx })
  /-- The Receiver's positive U_TXA (R166). -/
  | acknowledge (v : Word) (w : Tag) (hr : s.role = .receiver) (ha : activePhase s.phase = true) (hu : s.ustep = .uTxa)
      (hk : s.ackok = true) : EngineMove s (xmit v w { s with
        phase := (nextPhase s.phase s.idx s.q).1, idx := (nextPhase s.phase s.idx s.q).2
        ustep := .uRx, ackok := false })
  /-- The Receiver's negative U_TXA (R166). -/
  | reject (v : Word) (w : Tag) (hr : s.role = .receiver) (hu : s.ustep = .uTxa) :
      EngineMove s (xmit v w { s with phase := .pFail })
  /-- A waiting micro-step of either role: RECV, then a judgement (R135, R153, R160). -/
  | await (r : Option Frame) (t : State) (hw : s.awaits = true) (hj : judge r (recv s).2 = .next t) : EngineMove s t

theorem engineStep_idle {s : State} (hr : s.role = .idle) : engineStep s = .next s := by
  simp [engineStep, hr]

theorem engineStep_complete {s : State} (ok : Bool) (hr : s.role ≠ .idle)
    (hp : s.phase = if ok then .pDone else .pFail) : engineStep s = .next (complete ok s) := by
  cases ok <;> cases h : s.role <;> simp_all [engineStep]

theorem engineStep_sender {s : State} (hr : s.role = .sender) (ha : activePhase s.phase = true) :
    engineStep s = senderStep s := by
  cases hp : s.phase <;> simp_all [engineStep, activePhase]

theorem engineStep_receiver {s : State} (hr : s.role = .receiver) (ha : activePhase s.phase = true) :
    engineStep s = receiverStep s := by
  cases hp : s.phase <;> simp_all [engineStep, activePhase]

/-- A phase is active, or it is P_DONE or P_FAIL, which the completion step ends. -/
theorem activePhase_or_ended (p : Phase) : activePhase p = true ∨ ∃ ok : Bool, p = if ok then .pDone else .pFail := by
  cases p with
  | pTask => exact .inl rfl
  | pQty => exact .inl rfl
  | pData => exact .inl rfl
  | pTerm => exact .inl rfl
  | pDone => exact .inr ⟨true, rfl⟩
  | pFail => exact .inr ⟨false, rfl⟩

/-- A waiting micro-step is a move. -/
theorem awaitStep_move {s t : State} (hw : s.awaits = true) (h : awaitStep s = .next t) : EngineMove s t := by
  obtain ⟨r, hr⟩ := awaitStep_eq_judge s
  exact .await r t hw (hr.symm.trans h)

/-- The Sender's U_TX is one of its two moves. -/
theorem sendFrameStep_move {s t : State} (hr : s.role = .sender) (hu : s.ustep = .uTx)
    (h : sendFrameStep s = .next t) : EngineMove s t := by
  unfold sendFrameStep at h
  split at h
  case h_1 hp => cases h; exact .frame _ _ hr (by rw [hp]; rfl) (by simp [hp]) hu
  case h_2 hp => cases h; exact .frame _ _ hr (by rw [hp]; rfl) (by simp [hp]) hu
  case h_3 hp =>
    split at h
    · cases h; exact .word _ hr hp hu
    · cases h
  case h_4 hp => cases h; exact .frame _ _ hr (by rw [hp]; rfl) (by simp [hp]) hu
  case h_5 => cases h
  case h_6 => cases h

/-- The Sender's micro-steps are moves. -/
theorem senderStep_move {s t : State} (hr : s.role = .sender) (ha : activePhase s.phase = true)
    (h : senderStep s = .next t) : EngineMove s t := by
  unfold senderStep at h
  cases hu : s.ustep <;> simp only [hu] at h
  case uTx => exact sendFrameStep_move hr hu h
  case uTxc =>
    split at h
    · next hp => cases h; exact .checksum _ _ hr hp hu
    · cases h
  case uRx =>
    refine awaitStep_move ?_ h
    revert ha
    rw [State.awaits, hr, hu]
    cases s.phase <;> simp [activePhase, waitingPosition]
  case uRxc => cases h
  case uTxa => cases h

/-- The Receiver's micro-steps are moves. -/
theorem receiverStep_move {s t : State} (hr : s.role = .receiver) (ha : activePhase s.phase = true)
    (h : receiverStep s = .next t) : EngineMove s t := by
  unfold receiverStep at h
  cases hu : s.ustep <;> simp only [hu] at h
  case uTx => cases h
  case uTxc => cases h
  case uRx =>
    refine awaitStep_move ?_ h
    revert ha
    rw [State.awaits, hr, hu]
    cases s.phase <;> simp [activePhase, waitingPosition]
  case uRxc =>
    split at h
    · next hp => exact awaitStep_move (by rw [State.awaits, hr, hu, hp]; rfl) h
    · cases h
  case uTxa =>
    unfold sendAckStep at h
    split at h
    · next hk => cases h; exact .acknowledge _ _ hr ha hu hk
    · cases h; exact .reject _ _ hr hu

/-- All that the engine's micro-step can do. -/
theorem engineStep_move {s t : State} (h : engineStep s = .next t) : EngineMove s t := by
  cases hr : s.role with
  | idle => rw [engineStep_idle hr] at h; cases h; exact .rest hr
  | sender =>
    obtain ha | ⟨ok, hp⟩ := activePhase_or_ended s.phase
    · rw [engineStep_sender hr ha] at h; exact senderStep_move hr ha h
    · have hi : s.role ≠ .idle := by simp [hr]
      rw [engineStep_complete ok hi hp] at h; cases h; exact .complete ok hi hp
  | receiver =>
    obtain ha | ⟨ok, hp⟩ := activePhase_or_ended s.phase
    · rw [engineStep_receiver hr ha] at h; exact receiverStep_move hr ha h
    · have hi : s.role ≠ .idle := by simp [hr]
      rw [engineStep_complete ok hi hp] at h; cases h; exact .complete ok hi hp

end Sys2Proof.Machine

/-! SUPPORT. All the moves of a step, the host's accesses included, what the judgement writes, and the obligations that
follow: the succession of the phases (spec/10_state.md R36), the end of BUSY (R12, R13), the writing of the results
(R28). -/

namespace Sys2Proof.Machine

/-! ## The moves of the machine -/

/-- All the moves a step can make: the engine's own under a silent host, and one for each kind of host access that is
not refused. -/
inductive StepMove (s : State) : State → Prop
  /-- The host is silent (R17). -/
  | engine (t : State) (hq : (takeHost s).1 = .quiet) (hm : EngineMove s.hostTaken t) : StepMove s t
  /-- A read changes the port's answer alone (R44). -/
  | read (v : Word) : StepMove s { s.hostTaken with hostRd := v }
  /-- A write that no register takes (R11). -/
  | ignored : StepMove s s.hostTaken
  /-- A write to OP_TASK (R27). -/
  | opTask (x : Task) : StepMove s { s.hostTaken with opTask := x }
  /-- A write to OP_QTY (R27). -/
  | opQty (y : Count) : StepMove s { s.hostTaken with opQty := y }
  /-- A write to a word of MSGBUF (R11). -/
  | msgWord (i : Nat) (v : Word) (hi : i < Config.msgbufWords) : StepMove s (s.hostTaken.setMsgWord i v)
  /-- A CMD write that is ignored leaves its action (R12, log 23). -/
  | ignoredCommand (c : CmdCode) : StepMove s (s.hostTaken.emit (.cmd c))
  /-- An accepted SEND (R126). -/
  | send (c : CmdCode) (hb : s.statusBusy = false) : StepMove s (acceptSend (s.hostTaken.emit (.cmd c)))
  /-- An accepted RECEIVE (R151). -/
  | receive (c : CmdCode) (hb : s.statusBusy = false) : StepMove s (acceptReceive (s.hostTaken.emit (.cmd c)))
  /-- The reset input (R200). -/
  | reset (hq : (takeHost s).1 = .reset) : StepMove s (resetEngine s.hostTaken)

/-- A step runs the host's next access on the state with that access used up. -/
theorem step_eq (s : State) : step s = runEvent (takeHost s).1 s.hostTaken := by
  rw [step, takeHost_snd]

/-- Under a silent host a step is the engine's micro-step. -/
theorem step_of_quiet {s : State} (hq : (takeHost s).1 = .quiet) : step s = engineStep s.hostTaken := by
  rw [step_eq, hq]; rfl

/-- A host write that is not refused is a move. -/
theorem hostWrite_move {s t : State} (n : Nat) (v : Word) (h : hostWrite n v s.hostTaken = .next t) :
    StepMove s t := by
  obtain ⟨-, hw⟩ | hw | hw | ⟨i, hi, hw⟩ | hw | ⟨-, -, hw⟩ := hostWrite_cases n v s.hostTaken <;> rw [hw] at h
  · obtain hc | ⟨hb, hc | hc⟩ := exec_command_cases (v.setWidth 2) (s.hostTaken.emit (.cmd (v.setWidth 2))) <;>
      rw [hc] at h <;> cases h
    · exact .ignoredCommand _
    · exact .send _ hb
    · exact .receive _ hb
  · cases h; exact .opTask _
  · cases h; exact .opQty _
  · cases h; exact .msgWord i v hi
  · cases h; exact .ignored
  · cases h

/-- All that a step can do. -/
theorem step_move {s t : State} (h : step s = .next t) : StepMove s t := by
  rw [step_eq] at h
  cases hev : (takeHost s).1 with
  | quiet => rw [hev] at h; exact .engine t hev (engineStep_move h)
  | write n v => rw [hev] at h; exact hostWrite_move n v h
  | read n => rw [hev] at h; cases h; exact .read _
  | reset => rw [hev] at h; cases h; exact .reset hev

/-! ## What the judgement writes -/

/-- A refused operand fails the Sender whatever its attempts (R183). -/
theorem failStep_operandRange {s : State} (hr : s.role = .sender) :
    failStep .operandRange s = { s with phase := .pFail, cause := some .operandRange } := by
  simp [failStep, hr]

/-- All that a step failure can do: nothing while idle, a retry of the Sender, the Sender's failure, or the Receiver's
failed wait (R180 to R183). -/
theorem failStep_cases (c : Cause) (s : State) :
    (s.role = .idle ∧ failStep c s = s) ∨
    (s.role = .sender ∧ s.att.toNat < 5 ∧
      failStep c s = { s with trace := s.trace ++ [.wait s.params.tRetry], ustep := .uTx, cause := some c }) ∨
    (s.role = .sender ∧ ∃ c', failStep c s = { s with phase := .pFail, cause := some c' }) ∨
    (s.role = .receiver ∧ failStep c s = { s with ackok := false, ustep := .uTxa, cause := some c }) := by
  cases hr : s.role with
  | idle => exact .inl ⟨rfl, by simp [failStep, hr]⟩
  | sender =>
    by_cases hc : c = .operandRange
    · subst hc
      exact .inr (.inr (.inl ⟨rfl, _, hr ▸ failStep_operandRange hr⟩))
    · by_cases ha : s.att.toNat < 5
      · exact .inr (.inl ⟨rfl, ha, hr ▸ failStep_retry c s hr hc ha⟩)
      · exact .inr (.inr (.inl ⟨rfl, _, hr ▸ failStep_exhausted c s hr hc (Nat.not_lt.mp ha)⟩))
  | receiver => exact .inr (.inr (.inr ⟨rfl, hr ▸ failStep_receiver c s hr⟩))

/-- All that a Receiver that takes a frame can write (R153 to R164). -/
theorem receiverAccepts_frame {k : Kind} {v : Word} {s t : State} (h : receiverAccepts k v s = .next t) :
    ∃ x q d c ok u m, t = { s with t := x, q := q, dw := d, crc := c, ackok := ok, ustep := u, msgbuf := m } := by
  cases k with
  | task => cases h; exact ⟨_, _, _, _, _, _, _, rfl⟩
  | ack => cases h; exact ⟨s.t, s.q, s.dw, s.crc, s.ackok, s.ustep, s.msgbuf, rfl⟩
  | quantity => cases h; exact ⟨_, _, _, _, _, _, _, rfl⟩
  | terminator => cases h; exact ⟨_, _, _, _, _, _, _, rfl⟩
  | data => cases h; exact ⟨_, _, _, _, _, _, _, rfl⟩
  | checksum =>
    simp only [receiverAccepts] at h
    split at h
    · cases h; exact ⟨_, _, _, _, _, _, _, rfl⟩
    · cases h

/-! ## Phases -/

/-- A phase is kept with its index, or left to its successor, or left to P_FAIL. -/
def PhaseMove (s t : State) : Prop :=
  (t.phase = s.phase ∧ t.idx = s.idx) ∨ (t.phase, t.idx) = nextPhase s.phase s.idx s.q ∨
    (t.phase = .pFail ∧ t.idx = s.idx)

theorem failStep_phase (c : Cause) (s : State) : PhaseMove s (failStep c s) := by
  obtain ⟨-, h⟩ | ⟨-, -, h⟩ | ⟨-, c', h⟩ | ⟨-, h⟩ := failStep_cases c s <;> rw [h]
  · exact .inl ⟨rfl, rfl⟩
  · exact .inl ⟨rfl, rfl⟩
  · exact .inr (.inr ⟨rfl, rfl⟩)
  · exact .inl ⟨rfl, rfl⟩

theorem judge_phase {r : Option Frame} {s t : State} (h : judge r s = .next t) : PhaseMove s t := by
  obtain ⟨-, hj⟩ | ⟨k, c, -, -, hj⟩ | ⟨k, -, -, -, hj⟩ | ⟨k, f, -, -, -, -, hj⟩ := judge_cases r s <;> rw [hj] at h
  · cases h; exact .inl ⟨rfl, rfl⟩
  · cases h; exact failStep_phase c s
  · cases h; exact .inr (.inl rfl)
  · obtain ⟨_, _, _, _, _, _, _, rfl⟩ := receiverAccepts_frame h
    exact .inl ⟨rfl, rfl⟩

theorem EngineMove.phase {s t : State} (h : EngineMove s t) (ha : activePhase s.phase = true) : PhaseMove s t := by
  cases h with
  | rest => exact .inl ⟨rfl, rfl⟩
  | complete ok _ hp => rw [hp] at ha; cases ok <;> cases ha
  | frame => exact .inl ⟨rfl, rfl⟩
  | word => exact .inl ⟨rfl, rfl⟩
  | checksum => exact .inl ⟨rfl, rfl⟩
  | acknowledge => exact .inr (.inl rfl)
  | reject => exact .inr (.inr ⟨rfl, rfl⟩)
  | await r _ _ hj => simpa [PhaseMove] using judge_phase hj

/-- The successor table of R36. -/
theorem nextPhase_table (i q : Count) :
    nextPhase .pTask i q = (.pQty, i) ∧
    (0 < q.toNat → nextPhase .pQty i q = (.pData, 0)) ∧
    (q = 0 → nextPhase .pQty i q = (.pTerm, i)) ∧
    (i.toNat + 1 < q.toNat → nextPhase .pData i q = (.pData, i + 1)) ∧
    (i.toNat + 1 = q.toNat → nextPhase .pData i q = (.pTerm, i)) ∧
    nextPhase .pTerm i q = (.pDone, i) := by
  refine ⟨rfl, fun h => if_pos h, ?_, fun h => if_pos h, fun h => if_neg (by omega), rfl⟩
  rintro rfl
  rfl

/-- Settles O42: the successor table, and the phase each move of the engine leads to. -/
theorem phasesOnlyMoveForward : Obligations.PhasesOnlyMoveForward := by
  refine ⟨nextPhase_table, fun s t hq h ha => ?_⟩
  rw [step_of_quiet hq] at h
  exact (engineStep_move h).phase ha

/-! ## STATUS and the results -/

/-- A move that touches neither BUSY nor ROLE nor the results. -/
structure KeepsStatus (s t : State) : Prop where
  busy : t.statusBusy = s.statusBusy
  role : t.role = s.role
  resTask : t.resTask = s.resTask
  resQty : t.resQty = s.resQty

theorem failStep_status (c : Cause) (s : State) : KeepsStatus s (failStep c s) := by
  obtain ⟨-, h⟩ | ⟨-, -, h⟩ | ⟨-, c', h⟩ | ⟨-, h⟩ := failStep_cases c s <;> rw [h] <;> exact ⟨rfl, rfl, rfl, rfl⟩

theorem judge_status {r : Option Frame} {s t : State} (h : judge r s = .next t) : KeepsStatus s t := by
  obtain ⟨-, hj⟩ | ⟨k, c, -, -, hj⟩ | ⟨k, -, -, -, hj⟩ | ⟨k, f, -, -, -, -, hj⟩ := judge_cases r s <;> rw [hj] at h
  · cases h; exact ⟨rfl, rfl, rfl, rfl⟩
  · cases h; exact failStep_status c s
  · cases h; exact ⟨rfl, rfl, rfl, rfl⟩
  · obtain ⟨_, _, _, _, _, _, _, rfl⟩ := receiverAccepts_frame h
    exact ⟨rfl, rfl, rfl, rfl⟩

/-- The engine touches STATUS, ROLE and the results in the completion step alone (R28, R140, R170). -/
theorem EngineMove.status {s t : State} (h : EngineMove s t) :
    KeepsStatus s t ∨
      ∃ ok : Bool, s.role ≠ .idle ∧ (s.phase = if ok then .pDone else .pFail) ∧ t = Machine.complete ok s := by
  cases h with
  | rest => exact .inl ⟨rfl, rfl, rfl, rfl⟩
  | complete ok hr hp => exact .inr ⟨ok, hr, hp, rfl⟩
  | frame => exact .inl ⟨rfl, rfl, rfl, rfl⟩
  | word => exact .inl ⟨rfl, rfl, rfl, rfl⟩
  | checksum => exact .inl ⟨rfl, rfl, rfl, rfl⟩
  | acknowledge => exact .inl ⟨rfl, rfl, rfl, rfl⟩
  | reject => exact .inl ⟨rfl, rfl, rfl, rfl⟩
  | await r _ _ hj =>
    obtain ⟨hb, hr, ht, hq⟩ := judge_status hj
    exact .inl ⟨by simpa using hb, by simpa using hr, by simpa using ht, by simpa using hq⟩

@[simp] theorem complete_statusBusy (ok : Bool) (s : State) : (complete ok s).statusBusy = false := by
  unfold complete; split <;> rfl
@[simp] theorem complete_statusDone (ok : Bool) (s : State) : (complete ok s).statusDone = true := by
  unfold complete; split <;> rfl
@[simp] theorem complete_statusOk (ok : Bool) (s : State) : (complete ok s).statusOk = ok := by
  unfold complete; split <;> rfl
@[simp] theorem complete_role (ok : Bool) (s : State) : (complete ok s).role = .idle := by
  unfold complete; split <;> rfl

/-- The completion writes both results or neither (R28). -/
theorem complete_results (ok : Bool) (s : State) :
    ((complete ok s).resTask = s.resTask ∧ (complete ok s).resQty = s.resQty) ∨
    (s.role = .receiver ∧ ok = true ∧ (complete ok s).resTask = s.t ∧ (complete ok s).resQty = s.q) := by
  unfold complete
  split
  · next h => exact .inr ⟨h.1, h.2, rfl, rfl⟩
  · exact .inl ⟨rfl, rfl⟩

/-- What every accepted SEND has written, refused at once or not: BUSY and ROLE, and the results as they were. -/
theorem acceptSend_status (s : State) : (acceptSend s).statusBusy = true ∧ (acceptSend s).role = .sender ∧
    (acceptSend s).resTask = s.resTask ∧ (acceptSend s).resQty = s.resQty := by
  obtain hq | hq := le_or_gt s.opQty.toNat 64
  · rw [acceptSend_legal hq]; exact ⟨rfl, rfl, rfl, rfl⟩
  · rw [acceptSend_refused hq]; exact ⟨rfl, rfl, rfl, rfl⟩

/-- Settles O52: of all moves the completion and reset alone lower BUSY or leave ROLE for IDLE. -/
theorem busyEndsOnlyByCompletionOrReset : Obligations.BusyEndsOnlyByCompletionOrReset := by
  intro s t h hend
  have unchanged : t.statusBusy = s.statusBusy → t.role = s.role → False := by
    intro hb hr; rw [hb, hr] at hend; simp at hend
  have started : t.statusBusy = true → t.role ≠ .idle → False := by
    intro hb hr; simp [hb, hr] at hend
  cases step_move h with
  | engine _ hq hm =>
    obtain hk | ⟨ok, hr, hp, rfl⟩ := hm.status
    · exact (unchanged hk.busy hk.role).elim
    · refine ⟨by simp, by simp, .inr ⟨hq, hr, by simp, ?_⟩⟩
      cases ok with
      | true => exact .inl ⟨hp, by simp⟩
      | false => exact .inr ⟨hp, by simp⟩
  | read v => exact (unchanged rfl rfl).elim
  | ignored => exact (unchanged rfl rfl).elim
  | opTask x => exact (unchanged rfl rfl).elim
  | opQty y => exact (unchanged rfl rfl).elim
  | msgWord i v => exact (unchanged rfl rfl).elim
  | ignoredCommand c => exact (unchanged rfl rfl).elim
  | send c =>
    obtain ⟨hb, hr, -, -⟩ := acceptSend_status (s.hostTaken.emit (.cmd c))
    exact (started hb (by simp [hr])).elim
  | receive c => exact (started rfl (by simp [acceptReceive, acceptCommand])).elim
  | reset hq => exact ⟨rfl, rfl, .inl hq⟩

/-- Settles O53: of all moves the completion and reset alone write the results. -/
theorem resultsWrittenOnlyBySuccessfulReceive : Obligations.ResultsWrittenOnlyBySuccessfulReceive := by
  intro s t h hnr
  cases step_move h with
  | engine _ hq hm =>
    obtain hk | ⟨ok, -, hp, rfl⟩ := hm.status
    · exact .inl ⟨hk.resTask, hk.resQty⟩
    · obtain hres | ⟨hr, rfl, ht, hqty⟩ := complete_results ok s.hostTaken
      · exact .inl hres
      · exact .inr ⟨hq, hr, hp, by simp, by simp, ht, hqty⟩
  | read v => exact .inl ⟨rfl, rfl⟩
  | ignored => exact .inl ⟨rfl, rfl⟩
  | opTask x => exact .inl ⟨rfl, rfl⟩
  | opQty y => exact .inl ⟨rfl, rfl⟩
  | msgWord i v => exact .inl ⟨rfl, rfl⟩
  | ignoredCommand c => exact .inl ⟨rfl, rfl⟩
  | send c =>
    obtain ⟨-, -, ht, hq⟩ := acceptSend_status (s.hostTaken.emit (.cmd c))
    exact .inl ⟨ht, hq⟩
  | receive c => exact .inl ⟨rfl, rfl⟩
  | reset hq => exact (hnr hq).elim

end Sys2Proof.Machine

/-! SUPPORT. The invariant (spec/10_state.md R33): its parts, one for the registers outside the sequencer and one for
each role; that every move keeps it; that a state of it never faults; and the obligations that say so. -/

namespace Sys2Proof.Machine

/-! ## The parts of the invariant -/

/-- What the invariant asks of STATUS, MSGBUF, the latch, the window counters and the adapter's answers, whatever the
sequencer's position. -/
structure PortInv (s : State) : Prop where
  mem : Memory.wf s.msgbuf = true
  busy : s.statusBusy = true ↔ s.role ≠ .idle
  busyDone : ¬(s.statusBusy = true ∧ s.statusDone = true)
  okDone : s.statusOk = true → s.statusDone = true
  window : s.pr = 0 ∧ s.pi = 0
  latched : s.rxv = false → s.rxtag = 0 ∧ s.rxval = 0
  rxtagFits : s.params.tagFits s.rxtag = true
  answersFit : s.answers.all s.params.answerFits = true

/-- What the invariant asks of every position: the bounds of ATT, Q and IDX. -/
structure BoundsInv (s : State) : Prop where
  attMax : s.att.toNat ≤ 5
  qMax : s.phase ≠ .pFail → s.q.toNat ≤ 64
  dataIdx : s.phase = .pData → s.idx.toNat < s.q.toNat

/-- What the invariant asks of a Sender beside the bounds. -/
structure SenderInv (s : State) : Prop where
  role : s.role = .sender
  position : s.ustep = .uTx ∨ (s.ustep = .uTxc ∧ s.phase = .pData) ∨ s.ustep = .uRx
  attTx : activePhase s.phase = true → s.ustep = .uTx → s.att.toNat ≤ 4
  attRx : activePhase s.phase = true → s.ustep ≠ .uTx → 1 ≤ s.att.toNat
  ackok : s.ackok = false
  crc : s.phase = .pData → s.ustep = .uRx → s.crc = checksum s.params.crc s.dw

/-- What the invariant asks of a Receiver beside the bounds. -/
structure ReceiverInv (s : State) : Prop where
  role : s.role = .receiver
  position : s.ustep = .uRx ∨ (s.ustep = .uRxc ∧ s.phase = .pData) ∨ s.ustep = .uTxa
  att : s.att = 0
  taskUnknown : s.phase = .pTask → (s.ustep = .uRx ∨ s.ackok = false) → s.t = Config.badTask
  ackokWait : s.ustep = .uRx ∨ s.ustep = .uRxc → s.ackok = false
  crc : s.ustep = .uRxc → s.crc = checksum s.params.crc s.dw

/-- What the invariant asks of an idle engine beside the bounds. -/
structure IdleInv (s : State) : Prop where
  role : s.role = .idle
  notTxc : s.ustep ≠ .uTxc
  notRxc : s.ustep ≠ .uRxc

theorem Inv.port {s : State} (h : Inv s) : PortInv s := { h with }

theorem Inv.bounds {s : State} (h : Inv s) : BoundsInv s := { h with }

theorem Inv.sender {s : State} (h : Inv s) (hr : s.role = .sender) : SenderInv s where
  role := hr
  position := by
    obtain hu | hu | hu := h.senderUstep hr
    · exact .inl hu
    · exact .inr (.inl ⟨hu, (h.txcData hu).2⟩)
    · exact .inr (.inr hu)
  attTx := h.attTx hr
  attRx := h.attRx hr
  ackok := h.ackokSender hr
  crc := fun hp hu => h.crcOfWord (.inr ⟨hr, hp, hu⟩)

theorem Inv.receiver {s : State} (h : Inv s) (hr : s.role = .receiver) : ReceiverInv s where
  role := hr
  position := by
    obtain hu | hu | hu := h.receiverUstep hr
    · exact .inl hu
    · exact .inr (.inl ⟨hu, (h.rxcData hu).2⟩)
    · exact .inr (.inr hu)
  att := h.attReceiver hr
  taskUnknown := h.taskUnknown hr
  ackokWait := h.ackokWait hr
  crc := fun hu => h.crcOfWord (.inl hu)

theorem Inv.idle {s : State} (h : Inv s) (hr : s.role = .idle) : IdleInv s where
  role := hr
  notTxc := fun hu => by simpa [hr] using (h.txcData hu).1
  notRxc := fun hu => by simpa [hr] using (h.rxcData hu).1

theorem inv_of_sender {s : State} (hp : PortInv s) (hb : BoundsInv s) (h : SenderInv s) : Inv s :=
  { hp, hb with
    senderUstep := fun _ => h.position.imp_right (Or.imp_left And.left)
    receiverUstep := by simp [h.role]
    txcData := fun hu => ⟨h.role, by simpa [hu] using h.position⟩
    rxcData := fun hu => by simpa [hu] using h.position
    taskUnknown := by simp [h.role]
    attTx := fun _ => h.attTx
    attRx := fun _ => h.attRx
    attReceiver := by simp [h.role]
    ackokSender := fun _ => h.ackok
    ackokWait := by simp [h.role]
    crcOfWord := by
      rintro (hu | ⟨-, hd, hu⟩)
      · simpa [hu] using h.position
      · exact h.crc hd hu }

theorem inv_of_receiver {s : State} (hp : PortInv s) (hb : BoundsInv s) (h : ReceiverInv s) : Inv s :=
  { hp, hb with
    senderUstep := by simp [h.role]
    receiverUstep := fun _ => h.position.imp_right (Or.imp_left And.left)
    txcData := fun hu => by simpa [hu] using h.position
    rxcData := fun hu => ⟨h.role, by simpa [hu] using h.position⟩
    taskUnknown := fun _ => h.taskUnknown
    attTx := by simp [h.role]
    attRx := by simp [h.role]
    attReceiver := fun _ => h.att
    ackokSender := by simp [h.role]
    ackokWait := fun _ => h.ackokWait
    crcOfWord := by
      rintro (hu | ⟨hr, -, -⟩)
      · exact h.crc hu
      · simp [h.role] at hr }

theorem inv_of_idle {s : State} (hp : PortInv s) (hb : BoundsInv s) (h : IdleInv s) : Inv s :=
  { hp, hb with
    senderUstep := by simp [h.role]
    receiverUstep := by simp [h.role]
    txcData := fun hu => (h.notTxc hu).elim
    rxcData := fun hu => (h.notRxc hu).elim
    taskUnknown := by simp [h.role]
    attTx := by simp [h.role]
    attRx := by simp [h.role]
    attReceiver := by simp [h.role]
    ackokSender := by simp [h.role]
    ackokWait := by simp [h.role]
    crcOfWord := by
      rintro (hu | ⟨hr, -, -⟩)
      · exact (h.notRxc hu).elim
      · simp [h.role] at hr }

/-! ## Updates outside the sequencer -/

/-- The registers and inputs that the invariant does not speak of may hold anything. -/
theorem Inv.setUnread {s : State} {x rx : Task} {y ry : Count} {c : Option Cause} {tr : List Action} {n : Nat}
    {hs : List HostEvent} {rd : Word} {o : OpResult} (h : Inv s) :
    Inv { s with opTask := x, opQty := y, resTask := rx, resQty := ry, cause := c, trace := tr, polls := n, host := hs,
                 hostRd := rd, out := o } := { h with }

theorem Inv.emit {s : State} (h : Inv s) (a : Action) : Inv (s.emit a) := h.setUnread

theorem Inv.hostTaken {s : State} (h : Inv s) : Inv s.hostTaken := h.setUnread

theorem Inv.showOut {s : State} (h : Inv s) (o : OpResult) : Inv (s.showOut o) := h.setUnread

theorem Inv.xmit {s : State} {v : Word} {w : Tag} (h : Inv s) : Inv (xmit v w s) := h.setUnread

/-- A write inside MSGBUF keeps its canonical form (R40). -/
theorem Inv.setMsgWord {s : State} (h : Inv s) {i : Nat} (hi : i < Config.msgbufWords) (v : Word) :
    Inv (s.setMsgWord i v) :=
  { h with mem := memSet_wf s.msgbuf i v h.mem hi }

/-! ## RECV -/

/-- An answer that fits, from the answers listed. -/
theorem pollRound_fits (round n i : Nat) (s : State) (h : s.answers.all s.params.answerFits = true) :
    s.params.answerFits (pollRound round n i s).1 = true ∧
      (pollRound round n i s).2.answers.all s.params.answerFits = true := by
  induction n generalizing i s with
  | zero => exact ⟨rfl, h⟩
  | succ n ih =>
    have hfit := pollOnce_fits { s with pr := round, pi := i } h
    obtain ⟨a, p, hs⟩ := pollOnce_spec { s with pr := round, pi := i }
    simp only [pollRound]
    rcases hp : pollOnce { s with pr := round, pi := i } with ⟨r, s'⟩
    rw [hp] at hfit hs
    simp only at hfit hs
    subst hs
    cases r with
    | some f => exact hfit
    | none => exact ih (i + 1) _ hfit.2

theorem pollRounds_fits (n round : Nat) (s : State) (h : s.answers.all s.params.answerFits = true) :
    s.params.answerFits (pollRounds n round s).1 = true ∧
      (pollRounds n round s).2.answers.all s.params.answerFits = true := by
  induction n generalizing round s with
  | zero => exact ⟨rfl, h⟩
  | succ n ih =>
    have hfit := pollRound_fits round s.params.pollIters 0 s h
    obtain ⟨a, p, tr, pr, pi, hs⟩ := pollRound_spec round s.params.pollIters 0 s
    simp only [pollRounds]
    rcases hp : pollRound round s.params.pollIters 0 s with ⟨r, s'⟩
    rw [hp] at hfit hs
    simp only at hfit hs
    subst hs
    cases r with
    | some f => exact hfit
    | none => exact ih (round + 1) _ hfit.2

/-- RECV returns a frame whose tag fits, and leaves answers that fit (R113). -/
theorem recv_fits (s : State) (h : s.answers.all s.params.answerFits = true) :
    s.params.answerFits (recv s).1 = true ∧ (recv s).2.answers.all s.params.answerFits = true := by
  have hfit := pollRounds_fits s.params.pollRounds 0 (beginListening s) h
  simpa [recv] using hfit

theorem tagFits_zero (p : Params) : p.tagFits 0 = true := by
  simp [Params.tagFits]

/-- The latch of a fitting result (R24). -/
theorem latched_fits {p : Params} {r : Option Frame} (h : p.answerFits r = true) :
    p.tagFits ((r.map Frame.tag).getD 0) = true := by
  cases r with
  | none => exact tagFits_zero p
  | some f => exact h

theorem Inv.recv {s : State} (h : Inv s) : Inv (recv s).2 := by
  obtain ⟨hr, ha⟩ := recv_fits s h.answersFit
  obtain ⟨a, p, tr, e⟩ := recv_spec s
  rw [e] at ha ⊢
  generalize (Machine.recv s).1 = r at hr ha ⊢
  cases r with
  | none => exact { h with window := ⟨rfl, rfl⟩, latched := fun _ => ⟨rfl, rfl⟩, rxtagFits := tagFits_zero _
                           answersFit := ha }
  | some f => exact { h with window := ⟨rfl, rfl⟩, latched := nofun, rxtagFits := hr, answersFit := ha }

theorem Inv.pollOnce {s : State} (h : Inv s) : Inv (pollOnce s).2 := by
  have hfit := (pollOnce_fits s h.answersFit).2
  obtain ⟨a, n, e⟩ := pollOnce_spec s
  rw [e] at hfit ⊢
  exact { h with answersFit := hfit }

/-! ## The judgement -/

theorem nextPhase_ne_fail {p : Phase} (i q : Count) (ha : activePhase p = true) : (nextPhase p i q).1 ≠ .pFail := by
  cases p with
  | pTask => nofun
  | pQty => simp only [nextPhase]; split <;> simp
  | pData => simp only [nextPhase]; split <;> simp
  | pTerm => nofun
  | pDone => cases ha
  | pFail => cases ha

/-- No phase leads back to P_TASK. -/
theorem nextPhase_ne_task (p : Phase) (i q : Count) : (nextPhase p i q).1 ≠ .pTask := by
  cases p with
  | pTask => nofun
  | pQty => simp only [nextPhase]; split <;> simp
  | pData => simp only [nextPhase]; split <;> simp
  | pTerm => nofun
  | pDone => nofun
  | pFail => nofun

/-- P_DATA is entered, and kept, with an index below the quantity (R36). -/
theorem nextPhase_data {p : Phase} {i q : Count} (h : (nextPhase p i q).1 = .pData) :
    (nextPhase p i q).2.toNat < q.toNat := by
  unfold nextPhase at h ⊢
  cases p with
  | pQty =>
    simp only at h ⊢
    split at h
    · next hq => rw [if_pos hq]; exact hq
    · cases h
  | pData =>
    simp only at h ⊢
    split at h
    · next hi => rw [if_pos hi]; bv_omega
    · cases h
  | pTask => cases h
  | pTerm => cases h
  | pDone => cases h
  | pFail => cases h

/-- The bounds survive a succession of phases (R36). -/
theorem BoundsInv.succession {s : State} (h : BoundsInv s) (hactive : activePhase s.phase = true) {t : State}
    (hp : t.phase = (nextPhase s.phase s.idx s.q).1) (hi : t.idx = (nextPhase s.phase s.idx s.q).2) (hq : t.q = s.q)
    (ha : t.att.toNat ≤ 5) : BoundsInv t where
  attMax := ha
  qMax := fun _ => hq ▸ h.qMax (by rintro hf; rw [hf] at hactive; cases hactive)
  dataIdx := by rw [hp, hi, hq]; exact nextPhase_data

theorem Inv.failStep {s : State} {k : Kind} (c : Cause) (h : Inv s) (hk : expected s.role s.phase s.ustep = some k) :
    Inv (failStep c s) := by
  obtain ⟨-, e⟩ | ⟨hr, ha, e⟩ | ⟨hr, c', e⟩ | ⟨hr, e⟩ := failStep_cases c s <;> rw [e]
  · exact h
  · have hs := h.sender hr
    exact inv_of_sender { h.port with } { h.bounds with }
      { hs with position := .inl rfl, attTx := fun _ _ => Nat.le_of_lt_succ ha, attRx := fun _ hu => (hu rfl).elim
                crc := nofun }
  · have hs := h.sender hr
    have hu := (sender_awaits hr hk).2
    exact inv_of_sender { h.port with } { h.bounds with qMax := fun hf => (hf rfl).elim, dataIdx := nofun }
      { hs with position := .inr (.inr hu), attTx := nofun, attRx := nofun, crc := nofun }
  · have hs := h.receiver hr
    have hu := (receiver_awaits hr hk).2
    refine inv_of_receiver { h.port with } { h.bounds with }
      { hs with position := .inr (.inr rfl), taskUnknown := fun hp _ => ?_, ackokWait := fun _ => rfl, crc := nofun }
    obtain hu | ⟨-, hd⟩ := hu
    · exact hs.taskUnknown hp (.inl hu)
    · rw [show s.phase = .pTask from hp] at hd; cases hd

theorem Inv.advanceSender {s : State} {k : Kind} (h : Inv s) (hr : s.role = .sender)
    (hk : expected s.role s.phase s.ustep = some k) : Inv (advanceSender s) := by
  have hs := h.sender hr
  exact inv_of_sender { h.port with }
    (h.bounds.succession (sender_awaits hr hk).1 rfl rfl rfl (Nat.zero_le 5))
    { hs with position := .inl rfl, attTx := fun _ _ => Nat.zero_le 4, attRx := fun _ hu => (hu rfl).elim
              crc := nofun }

/-- A Receiver that has accepted a frame and acknowledges next: only the quantity taken must be in bounds. -/
theorem Inv.accepted {s : State} (x : Task) (q : Count) (h : Inv s) (hr : s.role = .receiver)
    (hq : s.phase ≠ .pFail → q.toNat ≤ 64) (hd : s.phase = .pData → q = s.q) :
    Inv { s with t := x, q := q, ackok := true, ustep := .uTxa } :=
  inv_of_receiver { h.port with }
    { h.bounds with qMax := hq, dataIdx := fun hp => by rw [hd hp]; exact h.dataIdx hp }
    { h.receiver hr with
      position := .inr (.inr rfl), taskUnknown := fun _ hu => by simp at hu, ackokWait := fun hu => by simp at hu
      crc := nofun }

/-- The low seven bits of a quantity of at most 64 are that quantity (R156). -/
theorem qtyLow_le {v : Word} (h : qtyLegal (qtyField v) = true) : (qtyLow v).toNat ≤ 64 := by
  have hle := of_decide_eq_true h
  simp only [Config.maxQty, qtyField, qtyLow, BitVec.extractLsb'_toNat, Nat.shiftRight_zero] at hle ⊢
  omega

/-- A Receiver awaits each kind at its own position (R84). -/
theorem receiver_awaits_kind {s : State} {k : Kind} (hr : s.role = .receiver)
    (h : expected s.role s.phase s.ustep = some k) :
    (k = .quantity → s.phase = .pQty) ∧ (k = .data → s.phase = .pData) ∧
      (k = .checksum → s.phase = .pData ∧ s.ustep = .uRxc) := by
  rw [hr] at h
  revert h
  cases s.phase <;> cases s.ustep <;> cases k <;> simp [expected]

/-- The index a Receiver stores at is inside MSGBUF (R43). -/
theorem Inv.idx_lt {s : State} (h : Inv s) (hp : s.phase = .pData) : s.idx.toNat < Config.msgbufWords :=
  Nat.lt_of_lt_of_le (h.dataIdx hp) (h.qMax (by simp [hp]))

/-- A Receiver in a state of the invariant takes every valid frame of the kind it awaits, and keeps the invariant
(R153 to R164). -/
theorem Inv.receiverAccepts {s : State} {k : Kind} {f : Frame} (h : Inv s) (hr : s.role = .receiver)
    (hk : expected s.role s.phase s.ustep = some k) (hv : payloadValid k f.value s.t s.crc = true) :
    ∃ t, receiverAccepts k f.value s = .next t ∧ Inv t := by
  obtain ⟨hqty, hdata, hcsum⟩ := receiver_awaits_kind hr hk
  cases k with
  | task => exact ⟨_, rfl, h.accepted _ s.q hr h.qMax fun _ => rfl⟩
  | ack => exact ⟨_, rfl, h⟩
  | quantity =>
    exact ⟨_, rfl, h.accepted s.t _ hr (fun _ => qtyLow_le hv) fun hp => by simp [hqty rfl] at hp⟩
  | terminator => exact ⟨_, rfl, h.accepted s.t s.q hr h.qMax fun _ => rfl⟩
  | data =>
    refine ⟨_, rfl, inv_of_receiver { h.port with } { h.bounds with } { h.receiver hr with
      position := .inr (.inl ⟨rfl, hdata rfl⟩), taskUnknown := fun hp => ?_, ackokWait := fun _ => ?_
      crc := fun _ => rfl }⟩
    · simp [hdata rfl] at hp
    · obtain hu | ⟨hu, -⟩ := (receiver_awaits hr hk).2
      · exact h.ackokWait hr (.inl hu)
      · exact h.ackokWait hr (.inr hu)
  | checksum =>
    have hi := h.idx_lt (hcsum rfl).1
    exact ⟨_, if_pos hi, (h.accepted s.t s.q hr h.qMax fun _ => rfl).setMsgWord hi s.dw⟩

/-- A judgement in a state of the invariant completes and keeps it. -/
theorem Inv.judge {s : State} (r : Option Frame) (h : Inv s) : ∃ t, judge r s = .next t ∧ Inv t := by
  obtain ⟨-, hj⟩ | ⟨k, c, hk, -, hj⟩ | ⟨k, hk, -, hr, hj⟩ | ⟨k, f, hk, hok, hr, rfl, hj⟩ := judge_cases r s <;> rw [hj]
  · exact ⟨s, rfl, h⟩
  · exact ⟨_, rfl, h.failStep c hk⟩
  · exact ⟨_, rfl, h.advanceSender hr hk⟩
  · obtain ⟨f', hf, -, hv⟩ := (acceptFrame_ok _ _ _ _).mp hok
    cases hf
    exact h.receiverAccepts hr hk hv

/-- A judgement that completes from a state of the invariant keeps it. -/
theorem Inv.judge_next {s t : State} {r : Option Frame} (h : Inv s) (hj : Machine.judge r s = .next t) : Inv t := by
  obtain ⟨t', ht', hi⟩ := h.judge r
  rw [hj] at ht'
  cases ht'
  exact hi

/-! ## The completion, the acceptances and reset -/

/-- The completion step of an ended phase leaves an idle engine (R140, R170). -/
theorem Inv.complete {s : State} {ok : Bool} (h : Inv s) (hp : s.phase = if ok then .pDone else .pFail) :
    Inv (complete ok s) := by
  have hnd : s.phase ≠ .pData := by cases ok <;> simp [hp]
  have hport : PortInv { s with statusOk := ok, statusDone := true, statusBusy := false, role := .idle } :=
    { h.port with busy := by simp, busyDone := by simp, okDone := fun _ => rfl }
  have hidle : Inv { s with statusOk := ok, statusDone := true, statusBusy := false, role := .idle } :=
    inv_of_idle hport { h.bounds with }
      { role := rfl, notTxc := fun hu => hnd (h.txcData hu).2, notRxc := fun hu => hnd (h.rxcData hu).2 }
  unfold Machine.complete
  split
  · exact hidle.setUnread
  · exact hidle.setUnread

/-- The registers outside the sequencer after an acceptance (R126, R151). -/
theorem acceptCommand_port {s : State} (h : Inv s) {r : Role} (hr : r ≠ .idle) : PortInv (acceptCommand r s) :=
  { h.port with busy := by simp [acceptCommand, hr], busyDone := by simp [acceptCommand], okDone := nofun
                window := ⟨rfl, rfl⟩, latched := fun _ => ⟨rfl, rfl⟩, rxtagFits := tagFits_zero _ }

theorem Inv.acceptSend {s : State} (h : Inv s) : Inv (acceptSend s) := by
  have hport := acceptCommand_port h (r := .sender) (by simp)
  obtain hq | hq := le_or_gt s.opQty.toNat 64
  · rw [acceptSend_legal hq]
    exact inv_of_sender { hport with } { attMax := Nat.zero_le 5, qMax := fun _ => hq, dataIdx := nofun }
      { role := rfl, position := .inl rfl, attTx := fun _ _ => Nat.zero_le 4, attRx := fun _ hu => (hu rfl).elim
        ackok := rfl, crc := nofun }
  · rw [acceptSend_refused hq]
    exact inv_of_sender { hport with }
      { attMax := Nat.zero_le 5, qMax := fun hf => (hf rfl).elim, dataIdx := nofun }
      { role := rfl, position := .inl rfl, attTx := nofun, attRx := nofun, ackok := rfl, crc := nofun }

theorem Inv.acceptReceive {s : State} (h : Inv s) : Inv (acceptReceive s) :=
  inv_of_receiver { acceptCommand_port h (r := .receiver) (by simp) with }
    { attMax := Nat.zero_le 5, qMax := fun _ => Nat.zero_le 64, dataIdx := nofun }
    { role := rfl, position := .inl rfl, att := rfl, taskUnknown := fun _ _ => rfl, ackokWait := fun _ => rfl
      crc := nofun }

/-- Reset gives a state of the invariant whenever the adapter's answers, which it keeps, fit (R32, R113). -/
theorem resetEngine_inv {s : State} (h : s.answers.all s.params.answerFits = true) : Inv (resetEngine s) :=
  inv_of_idle
    { mem := rfl, busy := by simp [resetEngine, State.reset], busyDone := by simp [resetEngine, State.reset]
      okDone := nofun, window := ⟨rfl, rfl⟩, latched := fun _ => ⟨rfl, rfl⟩, rxtagFits := tagFits_zero _
      answersFit := h }
    { attMax := Nat.zero_le 5, qMax := fun _ => Nat.zero_le 64, dataIdx := nofun }
    { role := rfl, notTxc := nofun, notRxc := nofun }

/-- Settles O48: reset from the reset state itself, which lists no answer and differs in its reset count alone. -/
theorem invariantHoldsAfterReset : Obligations.InvariantHoldsAfterReset :=
  { resetEngine_inv (s := State.reset) rfl with }

/-! ## Every move keeps the invariant -/

theorem EngineMove.inv {s t : State} (hm : EngineMove s t) (h : Inv s) : Inv t := by
  cases hm with
  | rest => exact h
  | complete ok _ hp => exact h.complete hp
  | frame v w hr ha hd hu =>
    have hs := h.sender hr
    have h4 := hs.attTx ha hu
    refine Inv.xmit (inv_of_sender { h.port with } { h.bounds with attMax := ?_ }
      { hs with position := .inr (.inr rfl), attTx := nofun, attRx := fun _ _ => ?_
                crc := fun hp => (hd hp).elim })
    · show (s.att + 1).toNat ≤ 5; bv_omega
    · show 1 ≤ (s.att + 1).toNat; bv_omega
  | word w hr hp hu =>
    have hs := h.sender hr
    have h4 := hs.attTx (by rw [hp]; rfl) hu
    refine Inv.xmit (inv_of_sender { h.port with } { h.bounds with attMax := ?_ }
      { hs with position := .inr (.inl ⟨rfl, hp⟩), attTx := nofun, attRx := fun _ _ => ?_, crc := nofun })
    · show (s.att + 1).toNat ≤ 5; bv_omega
    · show 1 ≤ (s.att + 1).toNat; bv_omega
  | checksum v w hr hp hu =>
    have hs := h.sender hr
    exact Inv.xmit (inv_of_sender { h.port with } { h.bounds with }
      { hs with position := .inr (.inr rfl), attTx := nofun, attRx := fun ha _ => hs.attRx ha (by simp [hu])
                crc := fun _ _ => rfl })
  | acknowledge v w hr ha hu hk =>
    exact Inv.xmit (inv_of_receiver { h.port with } (h.bounds.succession ha rfl rfl rfl h.attMax)
      { h.receiver hr with
        position := .inl rfl, taskUnknown := fun hp => (nextPhase_ne_task _ _ _ hp).elim
        ackokWait := fun _ => rfl, crc := nofun })
  | reject v w hr hu =>
    exact Inv.xmit (inv_of_receiver { h.port with }
      { h.bounds with qMax := fun hf => (hf rfl).elim, dataIdx := nofun }
      { h.receiver hr with
        position := .inr (.inr hu), taskUnknown := nofun })
  | await r _ _ hj => exact h.recv.judge_next hj

/-- Settles O49: every move of a step keeps the invariant. -/
theorem everyStepKeepsTheInvariant : Obligations.EveryStepKeepsTheInvariant := by
  intro s t h hstep
  have h' := h.hostTaken
  cases step_move hstep with
  | engine _ _ hm => exact hm.inv h'
  | read v => exact h'.setUnread
  | ignored => exact h'
  | opTask x => exact h'.setUnread
  | opQty y => exact h'.setUnread
  | msgWord i v hi => exact h'.setMsgWord hi v
  | ignoredCommand c => exact h'.emit _
  | send c => exact (h'.emit _).acceptSend
  | receive c => exact (h'.emit _).acceptReceive
  | reset => exact resetEngine_inv h'.answersFit

/-! ## Every instruction keeps the invariant -/

/-- A frame row is a judgement (log 8). -/
theorem exec_frame {i : Instr} (h : i.format = .frame) : ∃ f, ∀ s, exec i s = judge (some f) s := by
  cases i with
  | task _ | ack _ | nack _ | qty _ | term | csum _ | data _ => exact ⟨_, fun _ => rfl⟩
  | _ => cases h

/-- A command row is the command of a CMD code (R72). -/
theorem exists_code {i : Instr} (h : i.format = .command) : ∃ c, i = decodeCommand c := by
  cases i with
  | nop => exact ⟨0, rfl⟩
  | send => exact ⟨1, rfl⟩
  | receive => exact ⟨2, rfl⟩
  | reserved3 => exact ⟨3, rfl⟩
  | _ => cases h

/-- An internal operation shows its output after nothing, some actions, a poll or a RECV. -/
theorem exec_internal {i : Instr} (h : i.format = .internal) (s : State) :
    ∃ s' o, exec i s = .next (s'.showOut o) ∧ (Inv s → Inv s') := by
  cases i with
  | transmit v w => exact ⟨_, _, rfl, fun hi => hi.emit _⟩
  | beginListening => exact ⟨_, _, rfl, fun hi => hi.emit _⟩
  | xmit v w => exact ⟨_, _, rfl, fun hi => hi.xmit⟩
  | pollOnce => exact ⟨_, _, rfl, Inv.pollOnce⟩
  | recv => exact ⟨_, _, rfl, Inv.recv⟩
  | receiveAck e => exact ⟨_, _, rfl, Inv.recv⟩
  | kindToTag _ | tagToKind _ | payloadValid _ _ _ _ | expected _ _ _ | accept _ _ _ _ | checksum _ | crcUpdate _ _
  | encodeAck _ _ | decodeStatus _ | validateAck _ _ => exact ⟨s, _, rfl, id⟩
  | _ => cases h

/-- Settles O50: a frame is judged, a command is ignored or accepted, an internal operation shows its output. -/
theorem everyInstructionKeepsTheInvariant : Obligations.EveryInstructionKeepsTheInvariant := by
  intro i s t h hexec
  cases hfmt : i.format with
  | frame =>
    obtain ⟨f, hf⟩ := exec_frame hfmt
    exact h.judge_next ((hf s).symm.trans hexec)
  | command =>
    obtain ⟨c, rfl⟩ := exists_code hfmt
    obtain e | ⟨-, e | e⟩ := exec_command_cases c s <;> rw [e] at hexec <;> cases hexec
    · exact h
    · exact h.acceptSend
    · exact h.acceptReceive
  | internal =>
    obtain ⟨s', o, e, hi⟩ := exec_internal hfmt s
    rw [e] at hexec
    cases hexec
    exact (hi h).showOut o

/-! ## A state of the invariant never faults -/

/-- A waiting micro-step completes. -/
theorem Inv.awaitStep {s : State} (h : Inv s) : ∃ t, awaitStep s = .next t := by
  obtain ⟨r, hr⟩ := awaitStep_eq_judge s
  obtain ⟨t, ht, -⟩ := h.recv.judge r
  exact ⟨t, hr.trans ht⟩

/-- The Sender's U_TX completes: the word it reads is inside MSGBUF (R43). -/
theorem Inv.sendFrameStep {s : State} (h : Inv s) (ha : activePhase s.phase = true) :
    ∃ t, sendFrameStep s = .next t := by
  unfold Machine.sendFrameStep
  cases hp : s.phase with
  | pTask => exact ⟨_, rfl⟩
  | pQty => exact ⟨_, rfl⟩
  | pData => exact ⟨_, if_pos (h.idx_lt hp)⟩
  | pTerm => exact ⟨_, rfl⟩
  | pDone => rw [hp] at ha; cases ha
  | pFail => rw [hp] at ha; cases ha

theorem Inv.senderStep {s : State} (h : Inv s) (hr : s.role = .sender) (ha : activePhase s.phase = true) :
    ∃ t, senderStep s = .next t := by
  obtain hu | ⟨hu, hp⟩ | hu := (h.sender hr).position <;> simp only [Machine.senderStep, hu]
  · exact h.sendFrameStep ha
  · exact ⟨_, if_pos hp⟩
  · exact h.awaitStep

/-- The Receiver's U_TXA completes. -/
theorem sendAckStep_next (s : State) : ∃ t, sendAckStep s = .next t := by
  unfold sendAckStep
  split <;> exact ⟨_, rfl⟩

theorem Inv.receiverStep {s : State} (h : Inv s) (hr : s.role = .receiver) : ∃ t, receiverStep s = .next t := by
  obtain hu | ⟨hu, hp⟩ | hu := (h.receiver hr).position <;> simp only [Machine.receiverStep, hu]
  · exact h.awaitStep
  · rw [if_pos hp]; exact h.awaitStep
  · exact sendAckStep_next s

/-- The engine's micro-step completes in every state of the invariant (R175). -/
theorem Inv.engineStep {s : State} (h : Inv s) : ∃ t, engineStep s = .next t := by
  cases hr : s.role with
  | idle => exact ⟨_, engineStep_idle hr⟩
  | sender =>
    obtain ha | ⟨ok, hp⟩ := activePhase_or_ended s.phase
    · rw [engineStep_sender hr ha]; exact h.senderStep hr ha
    · exact ⟨_, engineStep_complete ok (by simp [hr]) hp⟩
  | receiver =>
    obtain ha | ⟨ok, hp⟩ := activePhase_or_ended s.phase
    · rw [engineStep_receiver hr ha]; exact h.receiverStep hr
    · exact ⟨_, engineStep_complete ok (by simp [hr]) hp⟩

/-- A host write completes or is the misuse of MSGBUF during a RECEIVE (R34). -/
theorem hostWrite_safe (n : Nat) (v : Word) (s : State) :
    (∃ t, hostWrite n v s = .next t) ∨ (isMsgbufNumber n = true ∧ s.role = .receiver ∧
      hostWrite n v s = .refused .msgbufWriteDuringReceive) := by
  obtain ⟨-, e⟩ | e | e | ⟨i, -, e⟩ | e | hmis := hostWrite_cases n v s
  · obtain ec | ⟨-, ec | ec⟩ := exec_command_cases (v.setWidth 2) (s.emit (.cmd (v.setWidth 2))) <;>
      exact .inl ⟨_, e.trans ec⟩
  · exact .inl ⟨_, e⟩
  · exact .inl ⟨_, e⟩
  · exact .inl ⟨_, e⟩
  · exact .inl ⟨_, e⟩
  · exact .inr hmis

/-- Settles O51: the engine's own step completes by the invariant, every host access but the misuse by itself. -/
theorem everyStepIsSafe : Obligations.EveryStepIsSafe := by
  intro s h
  obtain ⟨-, hev⟩ | ⟨ev, rest, hhost, hev⟩ := takeHost_cases s
  · rw [safeStep, step_quiet hev]
    exact .inl h.engineStep
  · have h' : Inv { s with host := rest } := h.setUnread
    rw [safeStep, step_of_event s _ ev hev]
    cases ev with
    | quiet => exact .inl h'.engineStep
    | read n => exact .inl ⟨_, rfl⟩
    | reset => exact .inl ⟨_, rfl⟩
    | write n v =>
      obtain ht | ⟨hn, hr, e⟩ := hostWrite_safe n v { s with host := rest }
      · exact .inl ht
      · exact .inr ⟨⟨n, v, rest, hhost, hn, hr⟩, e⟩

end Sys2Proof.Machine

/-! SUPPORT. Noninterference (spec/10_state.md R27, R35): the engine's micro-step never reads OP_TASK, OP_QTY and the
two ghost values, so it does the same whatever they hold; and the two obligations that follow. -/

namespace Sys2Proof.Machine

/-! ## What the engine does not read -/

/-- Values for the four fields that no micro-step of the engine reads. -/
structure Unread where
  opTask : Task
  opQty : Count
  cause : Option Cause
  trace : List Action

/-- The values a state holds in those fields. -/
def State.unread (s : State) : Unread := ⟨s.opTask, s.opQty, s.cause, s.trace⟩

/-- The state with other values in those fields. -/
def State.overlay (s : State) (d : Unread) : State :=
  { s with opTask := d.opTask, opQty := d.opQty, cause := d.cause, trace := d.trace }

/-- The values after a micro-step that names the cause `c`, or none, and takes the actions `as`. -/
def Unread.after (d : Unread) (c : Option Cause) (as : List Action) : Unread :=
  { d with cause := c.or d.cause, trace := d.trace ++ as }

/-- A state is itself with the values it holds. -/
@[simp] theorem overlay_unread (s : State) : s.overlay s.unread = s := rfl

@[simp] theorem after_nothing (d : Unread) : d.after none [] = d := by
  simp [Unread.after]

@[simp] theorem after_after (d : Unread) (c c' : Option Cause) (as as' : List Action) :
    (d.after c as).after c' as' = d.after (c'.or c) (as ++ as') := by
  simp [Unread.after, Option.or_assoc]

/-- A micro-step is blind at a state when it does the same whatever the unread fields hold: the same next state, the
same cause named and the same actions taken, or the same fault. -/
def Blind (F : State → Host.Outcome State Fault Refusal) (s : State) : Prop :=
  (∃ (t : State) (c : Option Cause) (as : List Action), ∀ d,
      F (s.overlay d) = .next (t.overlay (d.after c as))) ∨
    ∃ f, ∀ d, F (s.overlay d) = .fault f

/-- A micro-step that touches none of the unread fields. -/
theorem Blind.pure {F : State → Host.Outcome State Fault Refusal} {s : State} (t : State)
    (h : ∀ d, F (s.overlay d) = .next (t.overlay d)) : Blind F s :=
  .inl ⟨t, none, [], by simpa using h⟩

/-- A micro-step that takes actions and names no cause. -/
theorem Blind.acts {F : State → Host.Outcome State Fault Refusal} {s : State} (t : State) (as : List Action)
    (h : ∀ d, F (s.overlay d) = .next (t.overlay (d.after none as))) : Blind F s :=
  .inl ⟨t, none, as, h⟩

/-- A micro-step that transmits a frame. -/
theorem Blind.xmits {F : State → Host.Outcome State Fault Refusal} {s : State} (t : State) (v : Word) (w : Tag)
    (h : ∀ d, F (s.overlay d) = .next (xmit v w (t.overlay d))) : Blind F s :=
  .acts t [.tx v w, .wait t.params.tFrame] fun d => by
    rw [h]
    simp [State.emit, State.overlay, Unread.after]

/-- A micro-step that goes on, at a state, as another does. -/
theorem Blind.congr {F G : State → Host.Outcome State Fault Refusal} {s : State} (hG : Blind G s)
    (h : ∀ d, F (s.overlay d) = G (s.overlay d)) : Blind F s := by
  simpa only [Blind, h] using hG

/-! ## RECV -/

theorem pollOnce_blind (s : State) :
    ∃ r, ∃ t : State, ∀ d, pollOnce (s.overlay d) = (r, t.overlay (d.after none [.poll r])) := by
  cases h : s.answers with
  | nil =>
    refine ⟨freeAnswer s.params s.polls, { s with answers := [], polls := s.polls + 1 }, fun d => ?_⟩
    have hd : (s.overlay d).answers = [] := h
    simp only [pollOnce, takeAnswer, hd]
    rfl
  | cons r rest => exact ⟨r, { s with answers := rest }, fun d => pollOnce_listed (s.overlay d) r rest h⟩

theorem pollRound_blind (round n i : Nat) (s : State) :
    ∃ r, ∃ t : State, ∃ as, ∀ d, pollRound round n i (s.overlay d) = (r, t.overlay (d.after none as)) := by
  induction n generalizing i s with
  | zero => exact ⟨none, s, [], fun d => by rw [after_nothing]; rfl⟩
  | succ n ih =>
    obtain ⟨r, t, ht⟩ := pollOnce_blind { s with pr := round, pi := i }
    have hpoll : ∀ d, pollOnce { s.overlay d with pr := round, pi := i } = (r, t.overlay (d.after none [.poll r])) := ht
    cases r with
    | some f => exact ⟨some f, t, [.poll (some f)], fun d => by rw [pollRound, hpoll]⟩
    | none =>
      obtain ⟨r', t', as, ht'⟩ := ih (i + 1) t
      refine ⟨r', t', [.poll none] ++ [.wait t.params.pollPause] ++ as, fun d => ?_⟩
      rw [pollRound, hpoll]
      exact (ht' ((d.after none [.poll none]).after none [.wait t.params.pollPause])).trans (by simp)

theorem pollRounds_blind (n round : Nat) (s : State) :
    ∃ r, ∃ t : State, ∃ as, ∀ d, pollRounds n round (s.overlay d) = (r, t.overlay (d.after none as)) := by
  induction n generalizing round s with
  | zero => exact ⟨none, s, [], fun d => by rw [after_nothing]; rfl⟩
  | succ n ih =>
    obtain ⟨r, t, as, ht⟩ := pollRound_blind round s.params.pollIters 0 s
    have hround : ∀ d, pollRound round (s.overlay d).params.pollIters 0 (s.overlay d) =
        (r, t.overlay (d.after none as)) := ht
    cases r with
    | some f => exact ⟨some f, t, as, fun d => by rw [pollRounds, hround]⟩
    | none =>
      obtain ⟨r', t', as', ht'⟩ := ih (round + 1) t
      refine ⟨r', t', as ++ as', fun d => ?_⟩
      rw [pollRounds, hround]
      exact (ht' (d.after none as)).trans (by simp)

theorem recv_blind (s : State) :
    ∃ r, ∃ t : State, ∃ as, ∀ d, recv (s.overlay d) = (r, t.overlay (d.after none as)) := by
  obtain ⟨r, t, as, ht⟩ := pollRounds_blind s.params.pollRounds 0 s
  have hrounds : ∀ d, pollRounds (s.overlay d).params.pollRounds 0 (beginListening (s.overlay d)) =
      (r, t.overlay ((d.after none [.listen]).after none as)) := fun d => ht (d.after none [.listen])
  refine ⟨r, latch r { t with pr := 0, pi := 0 }, [.listen] ++ as ++ [.wait t.params.tFrame], fun d => ?_⟩
  rw [recv, hrounds, after_after]
  cases r <;> simp [latch, State.overlay, Unread.after, State.emit]

/-! ## The judgement -/

theorem failStep_blind (c : Cause) (s : State) :
    ∃ t : State, ∃ c' as, ∀ d, failStep c (s.overlay d) = t.overlay (d.after c' as) := by
  cases hr : s.role with
  | idle =>
    refine ⟨s, none, [], fun d => ?_⟩
    have hd : (s.overlay d).role = .idle := hr
    simp [failStep, hd]
  | sender =>
    by_cases hc : c = .operandRange
    · refine ⟨{ s with phase := .pFail }, some c, [], fun d => ?_⟩
      rw [hc, failStep_operandRange (s := s.overlay d) hr]
      simp [State.overlay, Unread.after]
    · by_cases ha : s.att.toNat < 5
      · exact ⟨{ s with ustep := .uTx }, some c, [.wait s.params.tRetry],
          fun d => failStep_retry c (s.overlay d) hr hc ha⟩
      · refine ⟨{ s with phase := .pFail }, some .retryExhausted, [], fun d => ?_⟩
        rw [failStep_exhausted c (s.overlay d) hr hc (Nat.not_lt.mp ha)]
        simp [State.overlay, Unread.after]
  | receiver =>
    refine ⟨{ s with ackok := false, ustep := .uTxa }, some c, [], fun d => ?_⟩
    rw [failStep_receiver c (s.overlay d) hr]
    simp [State.overlay, Unread.after]

theorem receiverAccepts_blind (k : Kind) (v : Word) (s : State) : Blind (receiverAccepts k v) s := by
  cases k with
  | task => exact .pure { s with t := taskField v, ackok := true, ustep := .uTxa } fun _ => rfl
  | ack => exact .pure s fun _ => rfl
  | quantity => exact .pure { s with q := qtyLow v, ackok := true, ustep := .uTxa } fun _ => rfl
  | terminator => exact .pure { s with ackok := true, ustep := .uTxa } fun _ => rfl
  | data => exact .pure { s with dw := v, crc := checksum s.params.crc v, ustep := .uRxc } fun _ => rfl
  | checksum =>
    by_cases hi : s.idx.toNat < Config.msgbufWords
    · exact .pure (({ s with ackok := true, ustep := .uTxa } : State).setMsgWord s.idx.toNat s.dw) fun _ => if_pos hi
    · exact .inr ⟨.msgbufIndex, fun _ => if_neg hi⟩

theorem judge_blind (r : Option Frame) (s : State) : Blind (judge r) s := by
  obtain ⟨hk, -⟩ | ⟨k, c, hk, ha, -⟩ | ⟨k, hk, hok, hr, -⟩ | ⟨k, f, hk, hok, hr, rfl, -⟩ := judge_cases r s
  · exact .pure s fun d => judge_unawaited r (s.overlay d) hk
  · obtain ⟨t, c', as, ht⟩ := failStep_blind c s
    exact .inl ⟨t, c', as, fun d => by rw [judge_fails r (s.overlay d) k c hk ha, ht]⟩
  · exact .pure (advanceSender s) fun d => judge_advances r (s.overlay d) k _ hr hk (Prod.ext hok rfl)
  · exact (receiverAccepts_blind k f.value s).congr fun d => judge_takes f (s.overlay d) k _ hr hk (Prod.ext hok rfl)

/-! ## The micro-steps -/

theorem awaitStep_blind (s : State) : Blind awaitStep s := by
  obtain ⟨o, u, as, hrecv⟩ := recv_blind s
  obtain ⟨r, hr⟩ := awaitStep_judges o
  have hawait : ∀ d, awaitStep (s.overlay d) = judge r (u.overlay (d.after none as)) := fun d => hr _ _ (hrecv d)
  obtain ⟨t, c, as', ht⟩ | ⟨f, hf⟩ := judge_blind r u
  · exact .inl ⟨t, c.or none, as ++ as', fun d => by rw [hawait, ht, after_after]⟩
  · exact .inr ⟨f, fun d => (hawait d).trans (hf _)⟩

@[simp] theorem overlay_role (s : State) (d : Unread) : (s.overlay d).role = s.role := rfl
@[simp] theorem overlay_phase (s : State) (d : Unread) : (s.overlay d).phase = s.phase := rfl
@[simp] theorem overlay_ustep (s : State) (d : Unread) : (s.overlay d).ustep = s.ustep := rfl
@[simp] theorem overlay_idx (s : State) (d : Unread) : (s.overlay d).idx = s.idx := rfl

theorem sendFrameStep_blind (s : State) : Blind sendFrameStep s := by
  cases hp : s.phase with
  | pTask =>
    exact .xmits { s with att := s.att + 1, ustep := .uRx } (taskValue s.t) (kindToTag .task) fun d => by
      simp only [sendFrameStep, overlay_phase, hp]; rfl
  | pQty =>
    exact .xmits { s with att := s.att + 1, ustep := .uRx } (qtyValue s.q) (kindToTag .quantity) fun d => by
      simp only [sendFrameStep, overlay_phase, hp]; rfl
  | pData =>
    by_cases hi : s.idx.toNat < Config.msgbufWords
    · exact .xmits { s with dw := s.msgWord s.idx.toNat, att := s.att + 1, ustep := .uTxc }
        (s.msgWord s.idx.toNat) (kindToTag .data) fun d => by
        simp only [sendFrameStep, overlay_phase, overlay_idx, hp, if_pos hi]; rfl
    · exact .inr ⟨.msgbufIndex, fun d => by simp only [sendFrameStep, overlay_phase, overlay_idx, hp, if_neg hi]⟩
  | pTerm =>
    exact .xmits { s with att := s.att + 1, ustep := .uRx } termValue (kindToTag .terminator) fun d => by
      simp only [sendFrameStep, overlay_phase, hp]; rfl
  | pDone => exact .inr ⟨.illegalPosition, fun d => by simp only [sendFrameStep, overlay_phase, hp]⟩
  | pFail => exact .inr ⟨.illegalPosition, fun d => by simp only [sendFrameStep, overlay_phase, hp]⟩

theorem sendChecksumStep_blind (s : State) : Blind sendChecksumStep s :=
  .xmits { s with crc := checksum s.params.crc s.dw, ustep := .uRx } (csumValue (checksum s.params.crc s.dw))
    (kindToTag .checksum) fun _ => rfl

theorem sendAckStep_blind (s : State) : Blind sendAckStep s := by
  by_cases hk : s.ackok = true
  · exact .xmits { s with
      phase := (nextPhase s.phase s.idx s.q).1, idx := (nextPhase s.phase s.idx s.q).2, ustep := .uRx, ackok := false }
      (ackValue s.t s.ackok) (kindToTag .ack) fun _ => if_pos hk
  · exact .xmits { s with phase := .pFail } (ackValue s.t s.ackok) (kindToTag .ack) fun _ => if_neg hk

/-- A position without a micro-step is a fault, whatever the unread fields hold. -/
theorem Blind.illegal {F : State → Host.Outcome State Fault Refusal} {s : State}
    (h : ∀ d, F (s.overlay d) = .fault .illegalPosition) : Blind F s :=
  .inr ⟨_, h⟩

theorem senderStep_blind (s : State) : Blind senderStep s := by
  cases hu : s.ustep with
  | uTx => exact (sendFrameStep_blind s).congr fun d => by simp only [senderStep, overlay_ustep, hu]
  | uTxc =>
    by_cases hp : s.phase = .pData
    · exact (sendChecksumStep_blind s).congr fun d => by simp [senderStep, hu, hp]
    · exact .illegal fun d => by simp [senderStep, hu, hp]
  | uRx => exact (awaitStep_blind s).congr fun d => by simp only [senderStep, overlay_ustep, hu]
  | uRxc => exact .illegal fun d => by simp only [senderStep, overlay_ustep, hu]
  | uTxa => exact .illegal fun d => by simp only [senderStep, overlay_ustep, hu]

theorem receiverStep_blind (s : State) : Blind receiverStep s := by
  cases hu : s.ustep with
  | uTx => exact .illegal fun d => by simp only [receiverStep, overlay_ustep, hu]
  | uTxc => exact .illegal fun d => by simp only [receiverStep, overlay_ustep, hu]
  | uRx => exact (awaitStep_blind s).congr fun d => by simp only [receiverStep, overlay_ustep, hu]
  | uRxc =>
    by_cases hp : s.phase = .pData
    · exact (awaitStep_blind s).congr fun d => by simp [receiverStep, hu, hp]
    · exact .illegal fun d => by simp [receiverStep, hu, hp]
  | uTxa => exact (sendAckStep_blind s).congr fun d => by simp only [receiverStep, overlay_ustep, hu]

/-- The completion step reads and writes none of the unread fields but the trace. -/
theorem complete_overlay (ok : Bool) (s : State) (d : Unread) :
    complete ok (s.overlay d) = (complete ok s).overlay (d.after none [.done ok]) := by
  unfold complete
  by_cases h : s.role = .receiver ∧ ok = true
  · rw [if_pos h, if_pos (show (s.overlay d).role = .receiver ∧ ok = true from h)]; rfl
  · rw [if_neg h, if_neg (show ¬((s.overlay d).role = .receiver ∧ ok = true) from h)]; rfl

/-- The engine's micro-step never reads OP_TASK, OP_QTY, CAUSE and TRACE (R27, R35). -/
theorem engineStep_blind (s : State) : Blind engineStep s := by
  obtain hi | hr := eq_or_ne s.role .idle
  · exact .pure s fun d => engineStep_idle hi
  · obtain ha | ⟨ok, hp⟩ := activePhase_or_ended s.phase
    · cases hrole : s.role with
      | idle => exact (hr hrole).elim
      | sender => exact (senderStep_blind s).congr fun d => engineStep_sender hrole ha
      | receiver => exact (receiverStep_blind s).congr fun d => engineStep_receiver hrole ha
    · exact .acts (complete ok s) [.done ok] fun d => by
        rw [engineStep_complete (s := s.overlay d) ok hr hp, complete_overlay]

/-- Settles O56: the engine's micro-step is blind to the operands and adds to the trace and the cause it finds. -/
theorem operandsAreSampledOnce : Obligations.OperandsAreSampledOnce := by
  intro s t x y hq h
  rw [step_of_quiet hq] at h
  have hq' : (takeHost { s with opTask := x, opQty := y }).1 = .quiet := by
    rw [takeHost_fst] at hq ⊢; exact hq
  rw [step_of_quiet hq']
  obtain ⟨u, c, as, hu⟩ | ⟨f, hf⟩ := engineStep_blind s.hostTaken
  · have ht := hu s.hostTaken.unread
    rw [overlay_unread, h] at ht
    cases ht
    exact hu { s.unread with opTask := x, opQty := y }
  · have ht := hf s.hostTaken.unread
    rw [overlay_unread, h] at ht
    cases ht

/-! ## The ghost values -/

/-- Two outcomes that differ at most in the ghost values of the next state. -/
inductive SameButGhost : Host.Outcome State Fault Refusal → Host.Outcome State Fault Refusal → Prop
  | next (t : State) (c : Option Cause) (tr : List Action) : SameButGhost (.next t) (.next (t.withGhost c tr))
  | fault (f : Fault) : SameButGhost (.fault f) (.fault f)
  | refused (r : Refusal) : SameButGhost (.refused r) (.refused r)

theorem engineStep_ghost (s : State) (c : Option Cause) (tr : List Action) :
    SameButGhost (engineStep s) (engineStep (s.withGhost c tr)) := by
  have hs : s.withGhost c tr = s.overlay { s.unread with cause := c, trace := tr } := rfl
  rw [hs]
  obtain ⟨u, c', as, hu⟩ | ⟨f, hf⟩ := engineStep_blind s
  · have hself := hu s.unread
    rw [overlay_unread] at hself
    rw [hself, hu]
    exact .next _ _ _
  · have hself := hf s.unread
    rw [overlay_unread] at hself
    rw [hself, hf]
    exact .fault f

theorem acceptSend_ghost (s : State) (c : Option Cause) (tr : List Action) :
    acceptSend (s.withGhost c tr) = (acceptSend s).withGhost (acceptSend s).cause tr := by
  obtain hq | hq := le_or_gt s.opQty.toNat 64
  · rw [acceptSend_legal hq, acceptSend_legal (s := s.withGhost c tr) hq]; rfl
  · rw [acceptSend_refused hq, acceptSend_refused (s := s.withGhost c tr) hq]; rfl

/-- A command writes the ghost cause and reads neither ghost value. -/
theorem exec_command_ghost (n : CmdCode) (s : State) (c : Option Cause) (tr : List Action) :
    SameButGhost (exec (decodeCommand n) s) (exec (decodeCommand n) (s.withGhost c tr)) := by
  cases hb : s.statusBusy with
  | true =>
    rw [exec_command_busy n hb, exec_command_busy (s := s.withGhost c tr) n hb]
    exact .next _ _ _
  | false =>
    unfold decodeCommand
    split
    · exact .next _ _ _
    · split
      · rw [exec_send_idle hb, exec_send_idle (s := s.withGhost c tr) hb, acceptSend_ghost]
        exact .next _ _ _
      · split
        · rw [exec_receive_idle hb, exec_receive_idle (s := s.withGhost c tr) hb]
          exact .next (acceptReceive s) none tr
        · exact .next _ _ _

theorem hostWrite_ghost (n : Nat) (v : Word) (s : State) (c : Option Cause) (tr : List Action) :
    SameButGhost (hostWrite n v s) (hostWrite n v (s.withGhost c tr)) := by
  have hrole : (s.withGhost c tr).role = s.role := rfl
  unfold hostWrite
  rw [hrole]
  split
  · exact exec_command_ghost (v.setWidth 2) (s.emit _) c (tr ++ [_])
  · split
    · exact .next { s with opTask := v.setWidth 12 } c tr
    · split
      · exact .next { s with opQty := v.setWidth 7 } c tr
      · split
        · split
          · exact .refused _
          · exact .next (s.setMsgWord (n - msgbufBase) v) c tr
        · exact .next s c tr

theorem runEvent_ghost (ev : HostEvent) (s : State) (c : Option Cause) (tr : List Action) :
    SameButGhost (runEvent ev s) (runEvent ev (s.withGhost c tr)) := by
  cases ev with
  | quiet => exact engineStep_ghost s c tr
  | write n v => exact hostWrite_ghost n v s c tr
  | read n => exact .next { s with hostRd := s.readReg n } c tr
  | reset => exact .next (resetEngine s) none []

theorem step_ghost (s : State) (c : Option Cause) (tr : List Action) :
    SameButGhost (step s) (step (s.withGhost c tr)) := by
  have hev : (takeHost (s.withGhost c tr)).1 = (takeHost s).1 := by
    rw [takeHost_fst, takeHost_fst]; rfl
  rw [step_eq, step_eq, hev]
  exact runEvent_ghost _ s.hostTaken c tr

/-- Settles O57: the outcomes of a step with and without other ghost values differ in the ghost values alone. -/
theorem ghostValuesAreInert : Obligations.GhostValuesAreInert := by
  intro s c tr
  have h := step_ghost s c tr
  refine ⟨fun t ht => ?_, fun f hf => ?_, fun r hr => ?_⟩
  · rw [ht] at h
    generalize step (s.withGhost c tr) = o at h
    cases h
    exact ⟨_, _, rfl⟩
  · rw [hf] at h
    generalize step (s.withGhost c tr) = o at h
    cases h
    rfl
  · rw [hr] at h
    generalize step (s.withGhost c tr) = o at h
    cases h
    rfl

end Sys2Proof.Machine

/-! SUPPORT. What a step transmits: the actions each micro-step appends to the trace, the frames among them, and the
obligation that every such frame fits its tag (spec/20_memory.md R51, spec/30_encoding.md R69, R70). -/

namespace Sys2Proof.Machine

/-! ## The frames among the actions -/

theorem txFrames_append (as bs : List Action) : txFrames (as ++ bs) = txFrames as ++ txFrames bs := by
  induction as with
  | nil => rfl
  | cons x as ih => cases x <;> simp [txFrames, ih]

theorem mem_txFrames {v : Word} {w : Tag} {as : List Action} (h : .tx v w ∈ as) : ⟨v, w⟩ ∈ txFrames as := by
  obtain ⟨as, bs, rfl⟩ := List.append_of_mem h
  simp [txFrames_append, txFrames]

/-- From `s` to `t` the trace only grows, and the frames transmitted on the way are `fs` (R51). -/
def Sends (s : State) (fs : List Frame) (t : State) : Prop :=
  ∃ as, t.trace = s.trace ++ as ∧ txFrames as = fs

theorem sends_nothing {s t : State} (h : t.trace = s.trace) : Sends s [] t :=
  ⟨[], by simp [h], rfl⟩

theorem sends_of_emit (s : State) (x : Action) : Sends s (txFrames [x]) (s.emit x) := ⟨[x], rfl, rfl⟩

theorem Sends.trans {s t u : State} {fs gs : List Frame} (h : Sends s fs t) (h' : Sends t gs u) :
    Sends s (fs ++ gs) u := by
  obtain ⟨as, ht, rfl⟩ := h
  obtain ⟨bs, hu, rfl⟩ := h'
  exact ⟨as ++ bs, by rw [hu, ht, List.append_assoc], txFrames_append as bs⟩

/-- Updates beside the trace do not matter to what was sent. -/
theorem Sends.of_trace_eq {s s' t t' : State} {fs : List Frame} (h : Sends s fs t) (hs : s'.trace = s.trace)
    (ht : t'.trace = t.trace) : Sends s' fs t' := by
  simpa only [Sends, hs, ht] using h

/-- XMIT sends its frame (R114). -/
theorem sends_xmit {s s₀ : State} (v : Word) (w : Tag) (h : s₀.trace = s.trace) : Sends s [⟨v, w⟩] (xmit v w s₀) :=
  ((sends_of_emit s₀ (.tx v w)).trans (sends_of_emit _ (.wait _))).of_trace_eq h.symm rfl

/-! ## RECV and the judgement transmit nothing -/

theorem pollOnce_sends (s : State) : Sends s [] (pollOnce s).2 := by
  obtain ⟨a, n, h⟩ := pollOnce_spec s
  rw [h]
  exact ⟨[.poll _], rfl, rfl⟩

theorem pollRound_sends (round n i : Nat) (s : State) : Sends s [] (pollRound round n i s).2 := by
  induction n generalizing i s with
  | zero => exact sends_nothing rfl
  | succ n ih =>
    have hpoll := (pollOnce_sends { s with pr := round, pi := i }).of_trace_eq (s' := s) rfl rfl
    simp only [pollRound]
    rcases hp : pollOnce { s with pr := round, pi := i } with ⟨r, s'⟩
    rw [hp] at hpoll
    cases r with
    | some f => exact hpoll
    | none => exact (hpoll.trans (sends_of_emit s' (.wait _))).trans (ih (i + 1) _)

theorem pollRounds_sends (n round : Nat) (s : State) : Sends s [] (pollRounds n round s).2 := by
  induction n generalizing round s with
  | zero => exact sends_nothing rfl
  | succ n ih =>
    have hround := pollRound_sends round s.params.pollIters 0 s
    simp only [pollRounds]
    rcases hp : pollRound round s.params.pollIters 0 s with ⟨r, s'⟩
    rw [hp] at hround
    cases r with
    | some f => exact hround
    | none => exact hround.trans (ih (round + 1) s')

theorem recv_sends (s : State) : Sends s [] (recv s).2 := by
  have hpolls := (sends_of_emit s .listen).trans (pollRounds_sends s.params.pollRounds 0 (s.emit .listen))
  refine (hpolls.trans (sends_of_emit _ (.wait s.params.tFrame))).of_trace_eq rfl ?_
  simp only [recv, latch_trace, waitUnits_eq, beginListening_eq, emit_trace]
  obtain ⟨a, p, tr, r, k, h⟩ := pollRounds_spec s.params.pollRounds 0 (s.emit .listen)
  rw [h]
  rfl

theorem failStep_sends (c : Cause) (s : State) : Sends s [] (failStep c s) := by
  obtain ⟨-, h⟩ | ⟨-, -, h⟩ | ⟨-, c', h⟩ | ⟨-, h⟩ := failStep_cases c s <;> rw [h]
  · exact sends_nothing rfl
  · exact ⟨[.wait _], rfl, rfl⟩
  · exact sends_nothing rfl
  · exact sends_nothing rfl

theorem judge_sends {r : Option Frame} {s t : State} (h : judge r s = .next t) : Sends s [] t := by
  obtain ⟨-, hj⟩ | ⟨k, c, -, -, hj⟩ | ⟨k, -, -, -, hj⟩ | ⟨k, f, -, -, -, -, hj⟩ := judge_cases r s <;> rw [hj] at h
  · cases h; exact sends_nothing rfl
  · cases h; exact failStep_sends c s
  · cases h; exact sends_nothing rfl
  · obtain ⟨_, _, _, _, _, _, _, rfl⟩ := receiverAccepts_frame h
    exact sends_nothing rfl

theorem awaitStep_sends {s t : State} (h : awaitStep s = .next t) : Sends s [] t := by
  obtain ⟨r, hr⟩ := awaitStep_eq_judge s
  exact (recv_sends s).trans (judge_sends (hr.symm.trans h))

/-! ## Frames that fit their tag -/

/-- A frame as R69 and R70 ask of the transmitter: one of the six tags, and a value below 2^tag. -/
def FitsTag (f : Frame) : Prop :=
  (f.tag = 12 ∨ f.tag = 13 ∨ f.tag = 14 ∨ f.tag = 15 ∨ f.tag = 16 ∨ f.tag = 32) ∧ f.value.toNat < 2 ^ f.tag

/-- A payload no wider than the tag of its kind, zero extended, fits (R69). -/
theorem fitsTag_setWidth {n : Nat} (k : Kind) (x : BitVec n) (hn : n ≤ kindToTag k) :
    FitsTag ⟨x.setWidth 32, kindToTag k⟩ := by
  refine ⟨by cases k <;> simp [kindToTag], ?_⟩
  calc (x.setWidth 32).toNat ≤ x.toNat := by rw [BitVec.toNat_setWidth]; exact Nat.mod_le _ _
    _ < 2 ^ n := x.isLt
    _ ≤ 2 ^ kindToTag k := Nat.pow_le_pow_right (by decide) hn

/-- A Data frame fits whatever its word. -/
theorem fitsTag_data (v : Word) : FitsTag ⟨v, kindToTag .data⟩ := by
  simpa using fitsTag_setWidth .data v le_rfl

/-- From `s` to `t` the trace grows by actions whose frames fit their tags. -/
def SendsFitting (s t : State) : Prop := ∃ fs, Sends s fs t ∧ ∀ f ∈ fs, FitsTag f

theorem SendsFitting.silent {s t : State} (h : Sends s [] t) : SendsFitting s t := ⟨[], h, nofun⟩

theorem SendsFitting.xmit {s s₀ : State} {v : Word} {w : Tag} (h : s₀.trace = s.trace) (hf : FitsTag ⟨v, w⟩) :
    SendsFitting s (xmit v w s₀) :=
  ⟨_, sends_xmit v w h, by simpa using hf⟩

theorem sendFrameStep_fits {s t : State} (h : sendFrameStep s = .next t) : SendsFitting s t := by
  unfold sendFrameStep at h
  split at h
  case h_1 => cases h; exact .xmit rfl (fitsTag_setWidth .task s.t le_rfl)
  case h_2 => cases h; exact .xmit rfl (fitsTag_setWidth .quantity s.q (by decide))
  case h_3 =>
    split at h
    · cases h; exact .xmit rfl (fitsTag_data _)
    · cases h
  case h_4 => cases h; exact .xmit rfl (fitsTag_setWidth .terminator Config.termValue le_rfl)
  case h_5 => cases h
  case h_6 => cases h

theorem sendChecksumStep_fits {s t : State} (h : sendChecksumStep s = .next t) : SendsFitting s t := by
  cases h
  exact .xmit rfl (fitsTag_setWidth .checksum (checksum s.params.crc s.dw) le_rfl)

theorem sendAckStep_fits {s t : State} (h : sendAckStep s = .next t) : SendsFitting s t := by
  unfold sendAckStep at h
  split at h <;> cases h <;> exact .xmit rfl (fitsTag_setWidth .ack (encodeAck s.t s.ackok) le_rfl)

theorem senderStep_fits {s t : State} (h : senderStep s = .next t) : SendsFitting s t := by
  unfold senderStep at h
  cases hu : s.ustep <;> simp only [hu] at h
  case uTx => exact sendFrameStep_fits h
  case uTxc =>
    split at h
    · exact sendChecksumStep_fits h
    · cases h
  case uRx => exact .silent (awaitStep_sends h)
  case uRxc => cases h
  case uTxa => cases h

theorem receiverStep_fits {s t : State} (h : receiverStep s = .next t) : SendsFitting s t := by
  unfold receiverStep at h
  cases hu : s.ustep <;> simp only [hu] at h
  case uTx => cases h
  case uTxc => cases h
  case uRx => exact .silent (awaitStep_sends h)
  case uRxc =>
    split at h
    · exact .silent (awaitStep_sends h)
    · cases h
  case uTxa => exact sendAckStep_fits h

/-- The completion step adds its one action (R140, R170). -/
theorem complete_trace (ok : Bool) (s : State) : (complete ok s).trace = s.trace ++ [.done ok] := by
  unfold complete; split <;> rfl

theorem complete_sends (ok : Bool) (s : State) : Sends s [] (complete ok s) := ⟨_, complete_trace ok s, rfl⟩

theorem engineStep_fits {s t : State} (h : engineStep s = .next t) : SendsFitting s t := by
  obtain hi | hi := eq_or_ne s.role .idle
  · rw [engineStep_idle hi] at h; cases h; exact .silent (sends_nothing rfl)
  · obtain ha | ⟨ok, hp⟩ := activePhase_or_ended s.phase
    · cases hr : s.role with
      | idle => exact (hi hr).elim
      | sender => exact senderStep_fits ((engineStep_sender hr ha).symm.trans h)
      | receiver => exact receiverStep_fits ((engineStep_receiver hr ha).symm.trans h)
    · rw [engineStep_complete ok hi hp] at h; cases h; exact .silent (complete_sends ok s)

theorem acceptSend_trace (s : State) : (acceptSend s).trace = s.trace := by
  obtain hq | hq := le_or_gt s.opQty.toNat 64
  · rw [acceptSend_legal hq]; rfl
  · rw [acceptSend_refused hq]; rfl

/-- Of all steps the engine's own alone transmit, and a host access adds at most its command to the trace. -/
theorem step_fits {s t : State} (h : step s = .next t) (hnr : (takeHost s).1 ≠ .reset) : SendsFitting s t := by
  cases step_move h with
  | engine _ hq _ => exact engineStep_fits (s := s.hostTaken) ((step_of_quiet hq).symm.trans h)
  | read v => exact .silent (sends_nothing rfl)
  | ignored => exact .silent (sends_nothing rfl)
  | opTask x => exact .silent (sends_nothing rfl)
  | opQty y => exact .silent (sends_nothing rfl)
  | msgWord i v => exact .silent (sends_nothing rfl)
  | ignoredCommand c => exact .silent ⟨[.cmd c], rfl, rfl⟩
  | send c => exact .silent ⟨[.cmd c], acceptSend_trace _, rfl⟩
  | receive c => exact .silent ⟨[.cmd c], rfl, rfl⟩
  | reset hq => exact (hnr hq).elim

/-- Settles O55: the frames a step sends fit their tags, and its transmissions are among them. -/
theorem transmittedFramesFitTheirTag : Obligations.TransmittedFramesFitTheirTag := by
  intro s t h hnr
  obtain ⟨_, ⟨as, ht, rfl⟩, hfit⟩ := step_fits h hnr
  exact ⟨as, ht, fun v w hvw => hfit _ (mem_txFrames hvw)⟩

/-! ## What the engine writes to MSGBUF -/

@[simp] theorem recv_msgbuf (s : State) : (recv s).2.msgbuf = s.msgbuf :=
  recv_keeps State.msgbuf (fun _ _ _ _ _ _ _ => rfl) s
@[simp] theorem recv_resets (s : State) : (recv s).2.resets = s.resets :=
  recv_keeps State.resets (fun _ _ _ _ _ _ _ => rfl) s
@[simp] theorem recv_dw (s : State) : (recv s).2.dw = s.dw :=
  recv_keeps State.dw (fun _ _ _ _ _ _ _ => rfl) s

/-- Every word of MSGBUF is as it was. -/
def KeepsWords (s t : State) : Prop := ∀ i, t.msgWord i = s.msgWord i

theorem keepsWords {s t : State} (hm : t.msgbuf = s.msgbuf) (hr : t.resets = s.resets) : KeepsWords s t :=
  msgWord_congr s t hm hr

/-- The Receiver's U_RXC stores DW at MSGBUF[IDX] and acknowledges (R41, R160). -/
structure StoresWord (s t : State) : Prop where
  role : s.role = .receiver
  phase : s.phase = .pData
  ustep : s.ustep = .uRxc
  stored : t.msgWord s.idx.toNat = s.dw
  others : ∀ i, i ≠ s.idx.toNat → t.msgWord i = s.msgWord i
  acks : t.ackok = true

theorem failStep_words (c : Cause) (s : State) : KeepsWords s (failStep c s) := by
  obtain ⟨-, h⟩ | ⟨-, -, h⟩ | ⟨-, c', h⟩ | ⟨-, h⟩ := failStep_cases c s <;> rw [h] <;> exact keepsWords rfl rfl

/-- Of the frames a Receiver takes, the Checksum frame alone makes it write a word (R41). -/
theorem receiverAccepts_words {k : Kind} {v : Word} {s t : State} (hr : s.role = .receiver)
    (hk : expected s.role s.phase s.ustep = some k) (h : receiverAccepts k v s = .next t) :
    KeepsWords s t ∨ StoresWord s t := by
  cases k with
  | task => cases h; exact .inl (keepsWords rfl rfl)
  | ack => cases h; exact .inl (keepsWords rfl rfl)
  | quantity => cases h; exact .inl (keepsWords rfl rfl)
  | terminator => cases h; exact .inl (keepsWords rfl rfl)
  | data => cases h; exact .inl (keepsWords rfl rfl)
  | checksum =>
    obtain ⟨-, -, hcsum⟩ := receiver_awaits_kind hr hk
    obtain ⟨hp, hu⟩ := hcsum rfl
    simp only [receiverAccepts] at h
    split at h
    · cases h
      exact .inr ⟨hr, hp, hu, msgWord_setMsgWord_same _ _ _, fun i hi => msgWord_setMsgWord_other _ _ i _ hi, rfl⟩
    · cases h

theorem judge_words {r : Option Frame} {s t : State} (h : judge r s = .next t) :
    KeepsWords s t ∨ StoresWord s t := by
  obtain ⟨-, hj⟩ | ⟨k, c, -, -, hj⟩ | ⟨k, -, -, -, hj⟩ | ⟨k, f, hk, -, hr, -, hj⟩ := judge_cases r s <;> rw [hj] at h
  · cases h; exact .inl (keepsWords rfl rfl)
  · cases h; exact .inl (failStep_words c s)
  · cases h; exact .inl (keepsWords rfl rfl)
  · exact receiverAccepts_words hr hk h

/-- RECV changes nothing that storing a word depends on. -/
theorem storesWord_of_recv {s t : State} (h : StoresWord (recv s).2 t) : StoresWord s t where
  role := by simpa using h.role
  phase := by simpa using h.phase
  ustep := by simpa using h.ustep
  stored := by simpa using h.stored
  others := fun i hi => by simpa [State.msgWord] using h.others i (by simpa using hi)
  acks := h.acks

theorem complete_words (ok : Bool) (s : State) : KeepsWords s (complete ok s) := by
  unfold complete; split <;> exact keepsWords rfl rfl

theorem EngineMove.words {s t : State} (h : EngineMove s t) : KeepsWords s t ∨ StoresWord s t := by
  cases h with
  | rest => exact .inl (keepsWords rfl rfl)
  | complete ok => exact .inl (complete_words ok s)
  | frame => exact .inl (keepsWords rfl rfl)
  | word => exact .inl (keepsWords rfl rfl)
  | checksum => exact .inl (keepsWords rfl rfl)
  | acknowledge => exact .inl (keepsWords rfl rfl)
  | reject => exact .inl (keepsWords rfl rfl)
  | await r _ _ hj =>
    obtain hk | hs := judge_words hj
    · exact .inl fun i => (hk i).trans (keepsWords (recv_msgbuf s) (recv_resets s) i)
    · exact .inr (storesWord_of_recv hs)

/-- Settles O54: of all moves of the engine, taking a Checksum frame alone changes a word of MSGBUF. -/
theorem engineWritesOnlyTheValidatedWord : Obligations.EngineWritesOnlyTheValidatedWord := by
  intro s t i hq h hne
  rw [step_of_quiet hq] at h
  obtain hk | hs := (engineStep_move h).words
  · exact (hne (hk i)).elim
  · have hi : i = s.idx.toNat := by
      by_contra hi
      exact hne (hs.others i hi)
    exact ⟨hs.role, hs.phase, hs.ustep, hi, by rw [hi]; exact hs.stored, hs.acks⟩

end Sys2Proof.Machine

/-! SUPPORT. The two ends of the lossless loopback (spec/20_memory.md R50): what one end's step takes from its queue
and sends, that the steps of the two ends commute, so that every schedule ends a given exchange in the same pair of
states after the same number of steps, and the pairs in which a window closes. -/

namespace Sys2Proof.Machine

/-! ## The step of one end -/

theorem takeHost_nil {s : State} (hh : s.host = []) : takeHost s = (.quiet, s) := by
  simp [takeHost, hh]

/-- An end whose host is silent listens where it awaits a frame. -/
theorem listens_eq_awaits {s : State} (hh : s.host = []) : listens s = s.awaits := by
  simp [listens, takeHost_nil hh, expected_isSome, State.awaits]

theorem not_awaits_of_idle {s : State} (hr : s.role = .idle) : s.awaits = false := by
  simp [State.awaits, hr, waitingPosition]

theorem atRest_eq_false {s : State} (hr : s.role ≠ .idle) : atRest s = false := by
  simp [atRest, hr]

theorem endMoves_of_step {s t : State} {fs : List Frame} (q : List Frame) (h : step s = .next t) (hs : Sends s fs t) :
    endMoves s q = some (t, fs, q) := by
  obtain ⟨as, ht, rfl⟩ := hs
  simp [endMoves, h, ht]

/-- An end's step that takes the frames `ins` from its queue, whatever else waits behind them, and sends `outs`. -/
def EndMove (s : State) (ins outs : List Frame) (t : State) : Prop :=
  ∀ q, endAlone s (ins ++ q) = some (t, outs, q)

/-- An end that awaits nothing takes its micro-step and leaves its queue. -/
theorem endMove_of_engineStep {s t : State} {fs : List Frame} (hh : s.host = []) (hr : s.role ≠ .idle)
    (hw : s.awaits = false) (h : engineStep s = .next t) (hs : Sends s fs t) : EndMove s [] fs t := fun q => by
  rw [List.nil_append, endAlone_host s q (atRest_eq_false hr) ((listens_eq_awaits hh).trans hw)]
  exact endMoves_of_step q ((step_quiet (takeHost_nil hh)).trans h) hs

/-- An end in P_DONE or P_FAIL completes and sends nothing. -/
theorem endMove_complete {s : State} (ok : Bool) (hh : s.host = []) (hr : s.role ≠ .idle)
    (hp : s.phase = if ok then .pDone else .pFail) : EndMove s [] [] (complete ok s) := by
  refine endMove_of_engineStep hh hr ?_ (engineStep_complete ok hr hp) (complete_sends ok s)
  rw [State.awaits, hp]
  cases ok <;> cases s.role <;> rfl

/-- A silent host's end that awaits a frame takes its waiting micro-step. -/
theorem step_awaits {s : State} (hh : s.host = []) (hw : s.awaits = true) : step s = awaitStep s :=
  (step_quiet (takeHost_nil hh)).trans (engineStep_awaits s hw)

/-- The frame is a row of the table, so running what it decodes to is judging it (log 8). -/
def IsRow (f : Frame) : Prop := ∃ i, decodePair f = .ok i ∧ ∀ s, exec i s = judge (some f) s

/-- The state in which the judgement finds an end whose RECV has taken `f` from the queue at its first poll. -/
def State.hearing (s : State) (f : Frame) : State :=
  { s with answers := [], trace := s.trace ++ [.listen, .poll (some f), .wait s.params.tFrame], pr := 0, pi := 0
           rxv := true, rxtag := f.tag, rxval := f.value }

/-- A listening end takes the frame at the head of its queue and judges it. -/
theorem endMove_of_judge {s t : State} {f : Frame} (hh : s.host = []) (hw : s.awaits = true) (hf : IsRow f)
    (h : judge (some f) (s.hearing f) = .next t) : EndMove s [f] [] t := fun q => by
  have hr : s.role ≠ .idle := fun hr => by simp [not_awaits_of_idle hr] at hw
  obtain ⟨i, hd, he⟩ := hf
  have hrecv : recv { s with answers := [some f] } = (some f, s.hearing f) := recv_first _ f [] rfl
  have hawait : awaitStep { s with answers := [some f] } = .next t :=
    (awaitStep_decoded _ _ f i hrecv hd).trans ((he _).trans h)
  have hstep : step { s with answers := [some f] } = .next t :=
    (step_awaits (s := { s with answers := [some f] }) hh hw).trans hawait
  rw [List.singleton_append, endAlone_listens s f q (atRest_eq_false hr) ((listens_eq_awaits hh).trans hw)]
  exact endMoves_of_step q hstep (awaitStep_sends hawait)

/-- An end at rest does not move, whatever waits in its queue. -/
theorem endAlone_atRest {s : State} (q : List Frame) (hh : s.host = []) (hr : s.role = .idle) :
    endAlone s q = none := by
  simp [endAlone, atRest, hh, hr]

/-- An end that listens to an empty queue does not move by itself. -/
theorem endAlone_listening {s : State} (hh : s.host = []) (hw : s.awaits = true) : endAlone s [] = none := by
  simp [endAlone, listens_eq_awaits hh, hw]

theorem endMoves_append {s t : State} {q sent rest : List Frame} (x : List Frame)
    (h : endMoves s q = some (t, sent, rest)) : endMoves s (q ++ x) = some (t, sent, rest ++ x) := by
  unfold endMoves at h ⊢
  cases hs : step s with
  | next u => simp only [hs] at h ⊢; cases h; rfl
  | fault _ => simp [hs] at h
  | refused _ => simp [hs] at h

/-- Frames that arrive behind those in the queue do not change a step that can be made without them. -/
theorem endAlone_append {s t : State} {q sent rest : List Frame} (x : List Frame)
    (h : endAlone s q = some (t, sent, rest)) : endAlone s (q ++ x) = some (t, sent, rest ++ x) := by
  unfold endAlone at h ⊢
  cases hr : atRest s with
  | true => simp [hr] at h
  | false =>
    cases hl : listens s with
    | false => simp only [hr, hl, Bool.false_eq_true, if_false] at h ⊢; exact endMoves_append x h
    | true =>
      simp only [hr, hl, Bool.false_eq_true, if_false, if_true] at h ⊢
      cases q with
      | nil => cases h
      | cons f q => exact endMoves_append x h

/-! ## The moves of the pair -/

/-- A step of the pair in which one end moves by itself. -/
inductive LinkMove (l : Link) : Link → Prop
  | left {t : State} {sent rest : List Frame} (h : endAlone l.left l.toLeft = some (t, sent, rest)) :
      LinkMove l { left := t, right := l.right, toRight := l.toRight ++ sent, toLeft := rest }
  | right {t : State} {sent rest : List Frame} (h : endAlone l.right l.toRight = some (t, sent, rest)) :
      LinkMove l { left := l.left, right := t, toRight := rest, toLeft := l.toLeft ++ sent }

theorem EndMove.linkLeft {s t r : State} {ins outs q p : List Frame} (h : EndMove s ins outs t) :
    LinkMove ⟨s, r, q, ins ++ p⟩ ⟨t, r, q ++ outs, p⟩ := .left (h p)

theorem EndMove.linkRight {s t r : State} {ins outs q p : List Frame} (h : EndMove r ins outs t) :
    LinkMove ⟨s, r, ins ++ q, p⟩ ⟨s, t, q, p ++ outs⟩ := .right (h q)

theorem linkLeft_alone {l : Link} {t : State} {sent rest : List Frame}
    (h : endAlone l.left l.toLeft = some (t, sent, rest)) :
    linkLeft l = some { left := t, right := l.right, toRight := l.toRight ++ sent, toLeft := rest } := by
  simp [linkLeft, endStep, h]

theorem linkRight_alone {l : Link} {t : State} {sent rest : List Frame}
    (h : endAlone l.right l.toRight = some (t, sent, rest)) :
    linkRight l = some { left := l.left, right := t, toRight := rest, toLeft := l.toLeft ++ sent } := by
  simp [linkRight, endStep, h]

/-- While the peer can move, an end that cannot waits: its window stays open (R50). -/
theorem linkLeft_waits {l : Link} {x : State × List Frame × List Frame} (h : endAlone l.left l.toLeft = none)
    (hr : endAlone l.right l.toRight = some x) : linkLeft l = none := by
  simp [linkLeft, endStep, h, hr]

theorem linkRight_waits {l : Link} {x : State × List Frame × List Frame} (h : endAlone l.right l.toRight = none)
    (hl : endAlone l.left l.toLeft = some x) : linkRight l = none := by
  simp [linkRight, endStep, h, hl]

/-- While an end can move by itself, every step of the pair is such a move. -/
theorem linkStep_move {l m : Link} (h : LinkMove l m) (b : Bool) : LinkMove l (linkStep b l) := by
  rcases hl : endAlone l.left l.toLeft with _ | ⟨t, sent, rest⟩ <;>
    rcases hr : endAlone l.right l.toRight with _ | ⟨t', sent', rest'⟩
  · cases h with
    | left h => simp [hl] at h
    | right h => simp [hr] at h
  · have hstep := LinkMove.right hr
    cases b <;> simpa [linkStep, linkLeft_waits hl hr, linkRight_alone hr] using hstep
  · have hstep := LinkMove.left hl
    cases b <;> simpa [linkStep, linkRight_waits hr hl, linkLeft_alone hl] using hstep
  · cases b with
    | false => simpa [linkStep, linkRight_alone hr] using LinkMove.right hr
    | true => simpa [linkStep, linkLeft_alone hl] using LinkMove.left hl

/-- Moves of the two ends commute: each only lengthens the queue the other takes from. -/
theorem LinkMove.diamond {l m m' : Link} (h : LinkMove l m) (h' : LinkMove l m') :
    m = m' ∨ ∃ k, LinkMove m k ∧ LinkMove m' k := by
  cases h with
  | left h =>
    cases h' with
    | left h' => rw [h] at h'; cases h'; exact .inl rfl
    | right h' => exact .inr ⟨_, .right (endAlone_append _ h'), .left (endAlone_append _ h)⟩
  | right h =>
    cases h' with
    | left h' => exact .inr ⟨_, .left (endAlone_append _ h'), .right (endAlone_append _ h)⟩
    | right h' => rw [h] at h'; cases h'; exact .inl rfl

/-- A run of the pair of `n` moves. -/
inductive LinkPath : Nat → Link → Link → Prop
  | refl (l : Link) : LinkPath 0 l l
  | move {n : Nat} {l m f : Link} (h : LinkMove l m) (hp : LinkPath n m f) : LinkPath (n + 1) l f

theorem LinkPath.trans {n k : Nat} {l m f : Link} (h : LinkPath n l m) (h' : LinkPath k m f) :
    LinkPath (n + k) l f := by
  induction h with
  | refl => rwa [Nat.zero_add]
  | move hm _ ih => rw [Nat.add_right_comm]; exact .move hm (ih h')

/-- A pair of engines at rest: both idle, their hosts silent. -/
structure AtRest (l : Link) : Prop where
  leftHost : l.left.host = []
  leftIdle : l.left.role = .idle
  rightHost : l.right.host = []
  rightIdle : l.right.role = .idle

theorem AtRest.not_move {l m : Link} (h : AtRest l) : ¬LinkMove l m := by
  rintro (hm | hm)
  · simp [endAlone_atRest l.toLeft h.leftHost h.leftIdle] at hm
  · simp [endAlone_atRest l.toRight h.rightHost h.rightIdle] at hm

/-- An end that does not listen has no window to close. -/
theorem endWindow_none {s : State} (q : List Frame) (hh : s.host = []) (hw : s.awaits = false) :
    endWindow s q = none := by
  simp [endWindow, listens_eq_awaits hh, hw]

theorem AtRest.linkStep {l : Link} (h : AtRest l) (b : Bool) : linkStep b l = l := by
  have hl : linkLeft l = none := by
    simp [linkLeft, endStep, endAlone_atRest _ h.leftHost h.leftIdle, endAlone_atRest _ h.rightHost h.rightIdle,
      endWindow_none _ h.leftHost (not_awaits_of_idle h.leftIdle)]
  have hr : linkRight l = none := by
    simp [linkRight, endStep, endAlone_atRest _ h.leftHost h.leftIdle, endAlone_atRest _ h.rightHost h.rightIdle,
      endWindow_none _ h.rightHost (not_awaits_of_idle h.rightIdle)]
  cases b <;> simp [Machine.linkStep, hl, hr]

/-- A run that comes to rest comes to rest in the same pair from every move of its start, one move sooner. -/
theorem LinkPath.after_move {n : Nat} {l m f : Link} (hp : LinkPath n l f) (hf : AtRest f) (hm : LinkMove l m) :
    ∃ k, n = k + 1 ∧ LinkPath k m f := by
  induction hp generalizing m with
  | refl => exact (hf.not_move hm).elim
  | @move n l m' f hm' hp ih =>
    refine ⟨n, rfl, ?_⟩
    obtain rfl | ⟨k, hk', hk⟩ := hm'.diamond hm
    · exact hp
    · obtain ⟨n', rfl, hpath⟩ := ih hf hk'
      exact .move hk hpath

/-- Every schedule that is long enough brings the pair to where one run comes to rest. -/
theorem linkRun_of_path {sched : List Bool} {n : Nat} {l f : Link} (hp : LinkPath n l f) (hf : AtRest f)
    (hn : n ≤ sched.length) : linkRun sched l = f := by
  induction sched generalizing n l with
  | nil =>
    cases hp with
    | refl => rfl
    | move => simp at hn
  | cons b bs ih =>
    cases hp with
    | refl => rw [linkRun, hf.linkStep b]; exact ih (.refl _) (Nat.zero_le _)
    | @move k _ m _ hm hp =>
      obtain ⟨k', hk, hpath⟩ := (LinkPath.move hm hp).after_move hf (linkStep_move hm b)
      rw [List.length_cons] at hn
      exact ih hpath (by omega)

/-- A pair of which one move alone is possible makes it, whatever the schedule. -/
theorem linkStep_eq {l m : Link} (b : Bool) (h : LinkMove l m) (hu : ∀ m', LinkMove l m' → m' = m) :
    linkStep b l = m :=
  hu _ (linkStep_move h b)

end Sys2Proof.Machine

/-! SUPPORT. The exchange of a SEND with a RECEIVE over the lossless loopback (spec/44_sender.md R143, spec/45_receiver.md
R173): where each end stands and what it knows at each step, the rounds of the four phases, and the whole exchange. -/

namespace Sys2Proof.Machine

/-! ## The frames of an exchange -/

theorem isRow_task (t : Task) : IsRow (taskFrame t) := by
  refine ⟨.task (taskField (taskValue t)), rfl, fun s => ?_⟩
  rw [taskField_taskValue]; rfl

theorem isRow_qty (q : BitVec 14) : IsRow (qtyFrame q) := by
  refine ⟨.qty (qtyField (q.setWidth 32)), rfl, fun s => ?_⟩
  rw [qtyField_setWidth]; rfl

theorem isRow_data (w : Word) : IsRow (dataFrame w) := ⟨.data w, rfl, fun _ => rfl⟩

theorem isRow_csum (c : Crc) : IsRow (csumFrame c) := by
  refine ⟨.csum (csumField (csumValue c)), rfl, fun s => ?_⟩
  rw [csumField_csumValue]; rfl

theorem isRow_term : IsRow termFrame := ⟨.term, by decide, fun _ => rfl⟩

/-- The echo of an acknowledgment stands where a Task frame has its task (R62, R63). -/
theorem echo_ackField (v : Word) : (ackField v).extractLsb' 0 12 = taskField v := by
  apply BitVec.eq_of_toNat_eq
  simp [ackField, taskField]

theorem isRow_ack (t : Task) : IsRow (ackFrameOf t true) := by
  have hstatus : (ackValue t true).getLsbD 12 = true := by
    simpa [decodeStatus, ackValue] using decodeStatus_encodeAck t true
  have hecho : (ackValue t true).extractLsb' 0 12 = t := by
    simpa [taskField] using (echo_ackField (ackValue t true)).symm
  refine ⟨.ack t, ?_, fun _ => rfl⟩
  simp [decodePair, ackFrameOf, kindToTag, hstatus, hecho]

/-- The quantity as the Sender transmits it (R74, R130). -/
theorem qtyValue_eq (q : Count) : qtyValue q = (q.setWidth 14).setWidth 32 := by
  ext i h; simp [qtyValue]

theorem qtyLow_qtyValue (q : Count) : qtyLow (qtyValue q) = q := by
  apply BitVec.eq_of_toNat_eq
  simp [qtyLow, qtyValue]
  omega

theorem qtyField_legal {q : Count} (h : q.toNat ≤ 64) : qtyLegal (qtyField (qtyValue q)) = true := by
  rw [qtyValue_eq, qtyField_setWidth]
  simp [qtyLegal, Config.maxQty]
  omega

/-! ## Where the ends stand -/

/-- A Sender of the message of `a` at a position: OP_TASK, OP_QTY and MSGBUF of `a` are what it sends. -/
structure SenderAt (a : State) (p : Phase) (i : Count) (u : UStep) (s : State) : Prop where
  host : s.host = []
  role : s.role = .sender
  phase : s.phase = p
  idx : s.idx = i
  ustep : s.ustep = u
  task : s.t = a.opTask
  qty : s.q = a.opQty
  crc : s.params.crc = a.params.crc
  words : ∀ j, s.msgWord j = a.msgWord j
  word : u = .uTxc → s.dw = a.msgWord i.toNat

/-- A Receiver of the message of `a` at a position: it holds T = `t`, Q = `q` and the first `n` words, at U_TXA it has
accepted, and at U_RXC it has the word of its index with its checksum. -/
structure ReceiverAt (a : State) (t : Task) (q : Count) (n : Nat) (p : Phase) (i : Count) (u : UStep) (r : State) :
    Prop where
  host : r.host = []
  role : r.role = .receiver
  phase : r.phase = p
  idx : r.idx = i
  ustep : r.ustep = u
  task : r.t = t
  qty : r.q = q
  crc : r.params.crc = a.params.crc
  words : ∀ j, j < n → r.msgWord j = a.msgWord j
  acked : u = .uTxa → r.ackok = true
  word : u = .uRxc → r.dw = a.msgWord i.toNat ∧ r.crc = checksum a.params.crc (a.msgWord i.toNat)

section
variable {a s r : State} {t : Task} {q : Count} {n : Nat} {p : Phase} {i : Count} {u : UStep}

theorem SenderAt.role_ne_idle (h : SenderAt a p i u s) : s.role ≠ .idle := by simp [h.role]

theorem ReceiverAt.role_ne_idle (h : ReceiverAt a t q n p i u r) : r.role ≠ .idle := by simp [h.role]

theorem SenderAt.awaits (h : SenderAt a p i u s) : s.awaits = waitingPosition .sender p u := by
  rw [State.awaits, h.role, h.phase, h.ustep]

theorem ReceiverAt.awaits (h : ReceiverAt a t q n p i u r) : r.awaits = waitingPosition .receiver p u := by
  rw [State.awaits, h.role, h.phase, h.ustep]

/-! ## The moves of the Sender -/

/-- An active Sender's U_TX is the transmission of its phase's frame. -/
theorem SenderAt.engineStep_tx (h : SenderAt a p i .uTx s) (ha : activePhase p = true) :
    engineStep s = sendFrameStep s := by
  rw [engineStep_sender h.role (by rw [h.phase]; exact ha), senderStep, h.ustep]

theorem not_waiting_tx (x : Role) (p : Phase) : waitingPosition x p .uTx = false := by
  cases x <;> cases p <;> rfl

/-- The Sender transmits the frame of a phase of one frame, and waits (R128). -/
theorem SenderAt.sends (h : SenderAt a p i .uTx s) (ha : activePhase p = true) (k : Kind) (v : Word)
    (hv : sendFrameStep s = .next (xmit v (kindToTag k) { s with att := s.att + 1, ustep := .uRx })) :
    ∃ s', EndMove s [] [frameOf k v] s' ∧ SenderAt a p i .uRx s' :=
  ⟨_, endMove_of_engineStep h.host h.role_ne_idle (h.awaits.trans (not_waiting_tx _ p))
    ((h.engineStep_tx ha).trans hv) (sends_xmit v _ rfl), { h with ustep := rfl, word := nofun }⟩

theorem SenderAt.sendsTask (h : SenderAt a .pTask i .uTx s) :
    ∃ s', EndMove s [] [taskFrame a.opTask] s' ∧ SenderAt a .pTask i .uRx s' := by
  refine h.sends rfl .task (taskValue a.opTask) ?_
  rw [sendFrameStep, h.phase, ← h.task]

theorem SenderAt.sendsQty (h : SenderAt a .pQty i .uTx s) :
    ∃ s', EndMove s [] [qtyFrame (a.opQty.setWidth 14)] s' ∧ SenderAt a .pQty i .uRx s' := by
  refine h.sends rfl .quantity _ ?_
  rw [sendFrameStep, h.phase, ← qtyValue_eq, ← h.qty]

theorem SenderAt.sendsTerm (h : SenderAt a .pTerm i .uTx s) :
    ∃ s', EndMove s [] [termFrame] s' ∧ SenderAt a .pTerm i .uRx s' := by
  refine h.sends rfl .terminator termValue ?_
  rw [sendFrameStep, h.phase]

/-- The Sender transmits the word of its index (R131). -/
theorem SenderAt.sendsData (h : SenderAt a .pData i .uTx s) (hi : i.toNat < 64) :
    ∃ s', EndMove s [] [dataFrame (a.msgWord i.toNat)] s' ∧ SenderAt a .pData i .uTxc s' := by
  have hw : s.msgWord s.idx.toNat = a.msgWord i.toNat := by rw [h.words, h.idx]
  have hv : sendFrameStep s = .next (xmit (s.msgWord s.idx.toNat) (kindToTag .data)
      { s with dw := s.msgWord s.idx.toNat, att := s.att + 1, ustep := .uTxc }) := by
    rw [sendFrameStep, h.phase]
    exact if_pos (by rw [h.idx]; exact hi)
  rw [hw] at hv
  exact ⟨_, endMove_of_engineStep h.host h.role_ne_idle (h.awaits.trans (not_waiting_tx _ _))
    ((h.engineStep_tx rfl).trans hv) (sends_xmit _ _ rfl), { h with ustep := rfl, word := fun _ => rfl }⟩

/-- The Sender transmits the checksum of the word it sent (R133). -/
theorem SenderAt.sendsCsum (h : SenderAt a .pData i .uTxc s) :
    ∃ s', EndMove s [] [csumFrame (checksum a.params.crc (a.msgWord i.toNat))] s' ∧ SenderAt a .pData i .uRx s' := by
  have hstep : engineStep s = sendChecksumStep s := by
    rw [engineStep_sender h.role (by rw [h.phase]; rfl), senderStep, h.ustep]
    exact if_pos h.phase
  rw [sendChecksumStep, h.word rfl, h.crc] at hstep
  exact ⟨_, endMove_of_engineStep h.host h.role_ne_idle h.awaits hstep (sends_xmit _ _ rfl),
    { h with ustep := rfl, word := nofun }⟩

theorem expected_sender_rx (ha : activePhase p = true) : expected .sender p .uRx = some .ack := by
  cases p with
  | pDone => cases ha
  | pFail => cases ha
  | _ => rfl

/-- The positive acknowledgment of the task ends the Sender's attempt (R136). -/
theorem SenderAt.hearsAck (h : SenderAt a p i .uRx s) (ha : activePhase p = true) :
    ∃ s', EndMove s [ackFrameOf a.opTask true] [] s' ∧
      SenderAt a (nextPhase p i a.opQty).1 (nextPhase p i a.opQty).2 .uTx s' := by
  have hk : expected s.role s.phase s.ustep = some .ack := by
    rw [h.role, h.phase, h.ustep, expected_sender_rx ha]
  have hok : acceptFrame (some (ackFrameOf a.opTask true)) .ack s.t s.crc = (true, none) := by
    rw [ackFrameOf, acceptFrame_frameOf_same]
    simp [payloadValid, h.task]
  refine ⟨_, endMove_of_judge h.host ((awaits_iff s).mpr ⟨_, hk⟩) (isRow_ack _)
    (judge_advances _ (s.hearing _) .ack none h.role hk hok), ?_⟩
  rw [← h.phase, ← h.idx, ← h.qty]
  exact { h with phase := rfl, idx := rfl, ustep := rfl, word := nofun }

/-! ## The moves of the Receiver -/

/-- Hearing a frame leaves the Receiver where it stands. -/
theorem ReceiverAt.hearing (h : ReceiverAt a t q n p i u r) (f : Frame) :
    ReceiverAt a t q n p i u (r.hearing f) := { h with }

/-- The Receiver takes a valid frame of the kind it awaits (R153). -/
theorem ReceiverAt.takes (h : ReceiverAt a t q n p i u r) {k : Kind} {v : Word} {r' : State}
    (hf : IsRow (frameOf k v)) (hk : expected .receiver p u = some k) (hv : payloadValid k v r.t r.crc = true)
    (hr : receiverAccepts k v (r.hearing (frameOf k v)) = .next r') : EndMove r [frameOf k v] [] r' := by
  have hk' : expected r.role r.phase r.ustep = some k := by rw [h.role, h.phase, h.ustep, hk]
  have hok : acceptFrame (some (frameOf k v)) k r.t r.crc = (true, none) := by
    rw [acceptFrame_frameOf_same, if_pos hv]
  exact endMove_of_judge h.host ((awaits_iff r).mpr ⟨k, hk'⟩) hf
    ((judge_takes (frameOf k v) (r.hearing _) k none h.role hk' hok).trans hr)

theorem ReceiverAt.takesTask (h : ReceiverAt a t q n .pTask i .uRx r) (x : Task) :
    ∃ r', EndMove r [taskFrame x] [] r' ∧ ReceiverAt a x q n .pTask i .uTxa r' :=
  ⟨_, h.takes (k := .task) (isRow_task x) rfl rfl rfl,
    { h with ustep := rfl, task := taskField_taskValue x, acked := fun _ => rfl, word := nofun }⟩

theorem ReceiverAt.takesQty (h : ReceiverAt a t q n .pQty i .uRx r) {x : Count} (hx : x.toNat ≤ 64) :
    ∃ r', EndMove r [qtyFrame (x.setWidth 14)] [] r' ∧ ReceiverAt a t x n .pQty i .uTxa r' := by
  rw [qtyFrame, ← qtyValue_eq]
  exact ⟨_, h.takes (k := .quantity) (by rw [qtyValue_eq]; exact isRow_qty _) rfl (qtyField_legal hx) rfl,
    { h with ustep := rfl, qty := qtyLow_qtyValue x, acked := fun _ => rfl, word := nofun }⟩

theorem ReceiverAt.takesTerm (h : ReceiverAt a t q n .pTerm i .uRx r) :
    ∃ r', EndMove r [termFrame] [] r' ∧ ReceiverAt a t q n .pTerm i .uTxa r' :=
  ⟨_, h.takes (k := .terminator) isRow_term rfl (by simp [payloadValid]) rfl,
    { h with ustep := rfl, acked := fun _ => rfl, word := nofun }⟩

theorem ReceiverAt.takesData (h : ReceiverAt a t q n .pData i .uRx r) :
    ∃ r', EndMove r [dataFrame (a.msgWord i.toNat)] [] r' ∧ ReceiverAt a t q n .pData i .uRxc r' :=
  ⟨_, h.takes (k := .data) (isRow_data _) rfl rfl rfl,
    { h with ustep := rfl, acked := nofun, word := fun _ => ⟨rfl, by rw [← h.crc]; rfl⟩ }⟩

/-- The checksum of the word taken: the Receiver stores the word and holds one more (R160). -/
theorem ReceiverAt.takesCsum (h : ReceiverAt a t q i.toNat .pData i .uRxc r) (hi : i.toNat < 64) :
    ∃ r', EndMove r [csumFrame (checksum a.params.crc (a.msgWord i.toNat))] [] r' ∧
      ReceiverAt a t q (i.toNat + 1) .pData i .uTxa r' := by
  obtain ⟨hdw, hcrc⟩ := h.word rfl
  refine ⟨_, h.takes (k := .checksum) (isRow_csum _) rfl (by simp [payloadValid, hcrc])
    (if_pos (show r.idx.toNat < 64 by rw [h.idx]; exact hi)), ?_⟩
  refine { h with ustep := rfl, acked := fun _ => rfl, word := nofun, words := fun j hj => ?_ }
  obtain hji | rfl := Nat.lt_succ_iff_lt_or_eq.mp hj
  · rw [msgWord_setMsgWord_other _ _ _ _ (by show j ≠ r.idx.toNat; rw [h.idx]; omega)]
    exact h.words j hji
  · rw [← hdw]
    show State.msgWord (State.setMsgWord _ r.idx.toNat r.dw) _ = _
    rw [h.idx, msgWord_setMsgWord_same]

/-- The Receiver's positive acknowledgment ends its phase (R166). -/
theorem ReceiverAt.acknowledges (h : ReceiverAt a t q n p i .uTxa r) (ha : activePhase p = true) :
    ∃ r', EndMove r [] [ackFrameOf t true] r' ∧
      ReceiverAt a t q n (nextPhase p i q).1 (nextPhase p i q).2 .uRx r' := by
  have hw : waitingPosition .receiver p .uTxa = false := by cases p <;> rfl
  have hstep : engineStep r = sendAckStep r := by
    rw [engineStep_receiver h.role (by rw [h.phase]; exact ha), receiverStep, h.ustep]
  rw [sendAckStep, if_pos (h.acked rfl), h.acked rfl, h.task] at hstep
  refine ⟨_, endMove_of_engineStep h.host h.role_ne_idle (h.awaits.trans hw) hstep (sends_xmit _ _ rfl), ?_⟩
  rw [← h.phase, ← h.idx, ← h.qty]
  exact { h with phase := rfl, idx := rfl, ustep := rfl, task := rfl, qty := rfl, acked := nofun, word := nofun }

end

/-! ## The rounds -/

/-- The pair with nothing in flight. -/
def quietLink (s r : State) : Link := { left := s, right := r, toRight := [], toLeft := [] }

/-- From any two ends where `S` and `R` hold, `n` moves of the pair lead to ends where `S'` and `R'` hold, with nothing in
flight before and after. -/
def Advances (n : Nat) (S R S' R' : State → Prop) : Prop :=
  ∀ s r, S s → R r → ∃ s' r', LinkPath n (quietLink s r) (quietLink s' r') ∧ S' s' ∧ R' r'

theorem Advances.trans {m n : Nat} {S R S' R' S'' R'' : State → Prop} (h : Advances m S R S' R')
    (h' : Advances n S' R' S'' R'') : Advances (m + n) S R S'' R'' := fun s r hs hr => by
  obtain ⟨s', r', hp, hs', hr'⟩ := h s r hs hr
  obtain ⟨s'', r'', hp', hs'', hr''⟩ := h' s' r' hs' hr'
  exact ⟨s'', r'', hp.trans hp', hs'', hr''⟩

section
variable {a : State} {t t' : Task} {q q' : Count} {n : Nat} {p : Phase} {i : Count}

/-- A frame that the Sender sends and the Receiver takes: two moves. -/
theorem advances_frame {S R S' R' : State → Prop} {f : Frame} (hs : ∀ s, S s → ∃ s', EndMove s [] [f] s' ∧ S' s')
    (hr : ∀ r, R r → ∃ r', EndMove r [f] [] r' ∧ R' r') : Advances 2 S R S' R' := fun s r hS hR => by
  obtain ⟨s', hsend, hS'⟩ := hs s hS
  obtain ⟨r', htake, hR'⟩ := hr r hR
  exact ⟨s', r', .move (hsend.linkLeft (q := []) (p := [])) (.move (htake.linkRight (q := []) (p := [])) (.refl _)),
    hS', hR'⟩

/-- The Receiver's acknowledgment, which the Sender hears, brings both to the successor of their phase (R36). -/
theorem advances_ack (ha : activePhase p = true) (hq : nextPhase p i q = nextPhase p i a.opQty) :
    Advances 2 (SenderAt a p i .uRx) (ReceiverAt a a.opTask q n p i .uTxa)
      (SenderAt a (nextPhase p i a.opQty).1 (nextPhase p i a.opQty).2 .uTx)
      (ReceiverAt a a.opTask q n (nextPhase p i a.opQty).1 (nextPhase p i a.opQty).2 .uRx) := fun s r hS hR => by
  obtain ⟨r', hack, hR'⟩ := hR.acknowledges ha
  obtain ⟨s', hhear, hS'⟩ := hS.hearsAck ha
  rw [hq] at hR'
  exact ⟨s', r', .move (hack.linkRight (q := []) (p := [])) (.move (hhear.linkLeft (q := []) (p := [])) (.refl _)),
    hS', hR'⟩

theorem advances_task : Advances 4 (SenderAt a .pTask i .uTx) (ReceiverAt a t q n .pTask i .uRx)
    (SenderAt a .pQty i .uTx) (ReceiverAt a a.opTask q n .pQty i .uRx) := by
  have hframe : Advances 2 (SenderAt a .pTask i .uTx) (ReceiverAt a t q n .pTask i .uRx)
      (SenderAt a .pTask i .uRx) (ReceiverAt a a.opTask q n .pTask i .uTxa) :=
    advances_frame (fun _ hs => hs.sendsTask) (fun _ hr => hr.takesTask a.opTask)
  exact hframe.trans (advances_ack rfl rfl)

theorem advances_qty (h64 : a.opQty.toNat ≤ 64) {p' : Phase} {i' : Count} (hn : nextPhase .pQty i a.opQty = (p', i')) :
    Advances 4 (SenderAt a .pQty i .uTx) (ReceiverAt a a.opTask q n .pQty i .uRx)
      (SenderAt a p' i' .uTx) (ReceiverAt a a.opTask a.opQty n p' i' .uRx) := by
  have hframe : Advances 2 (SenderAt a .pQty i .uTx) (ReceiverAt a a.opTask q n .pQty i .uRx)
      (SenderAt a .pQty i .uRx) (ReceiverAt a a.opTask a.opQty n .pQty i .uTxa) :=
    advances_frame (fun _ hs => hs.sendsQty) (fun _ hr => hr.takesQty h64)
  have hround := hframe.trans (advances_ack rfl rfl)
  rwa [hn] at hround

theorem advances_term : Advances 4 (SenderAt a .pTerm i .uTx) (ReceiverAt a a.opTask a.opQty n .pTerm i .uRx)
    (SenderAt a .pDone i .uTx) (ReceiverAt a a.opTask a.opQty n .pDone i .uRx) := by
  have hframe : Advances 2 (SenderAt a .pTerm i .uTx) (ReceiverAt a a.opTask a.opQty n .pTerm i .uRx)
      (SenderAt a .pTerm i .uRx) (ReceiverAt a a.opTask a.opQty n .pTerm i .uTxa) :=
    advances_frame (fun _ hs => hs.sendsTerm) (fun _ hr => hr.takesTerm)
  exact hframe.trans (advances_ack rfl rfl)

/-- The unit of a word, sent and stored: the Data frame and the Checksum frame may be in flight together. -/
theorem advances_unit (hi : i.toNat < 64) :
    Advances 4 (SenderAt a .pData i .uTx) (ReceiverAt a t q i.toNat .pData i .uRx)
      (SenderAt a .pData i .uRx) (ReceiverAt a t q (i.toNat + 1) .pData i .uTxa) := fun s r hS hR => by
  obtain ⟨s₁, hdata, hS₁⟩ := hS.sendsData hi
  obtain ⟨s₂, hcsum, hS₂⟩ := hS₁.sendsCsum
  obtain ⟨r₁, htake, hR₁⟩ := hR.takesData
  obtain ⟨r₂, hstore, hR₂⟩ := hR₁.takesCsum hi
  exact ⟨s₂, r₂, .move (hdata.linkLeft (q := []) (p := [])) (.move (hcsum.linkLeft (q := [_]) (p := []))
    (.move (htake.linkRight (q := [_]) (p := [])) (.move (hstore.linkRight (q := []) (p := [])) (.refl _)))),
    hS₂, hR₂⟩

theorem advances_word (hi : i.toNat < 64) {p' : Phase} {i' : Count} (hn : nextPhase .pData i a.opQty = (p', i')) :
    Advances 6 (SenderAt a .pData i .uTx) (ReceiverAt a a.opTask a.opQty i.toNat .pData i .uRx)
      (SenderAt a p' i' .uTx) (ReceiverAt a a.opTask a.opQty (i.toNat + 1) p' i' .uRx) := by
  have hround := (advances_unit (a := a) (t := a.opTask) (q := a.opQty) hi).trans (advances_ack rfl rfl)
  rwa [hn] at hround

/-- The words from an index to the last one. -/
theorem advances_words (h64 : a.opQty.toNat ≤ 64) (k : Nat) (i : Count) (hk : i.toNat + k + 1 = a.opQty.toNat) :
    ∃ j, Advances (6 * (k + 1)) (SenderAt a .pData i .uTx) (ReceiverAt a a.opTask a.opQty i.toNat .pData i .uRx)
      (SenderAt a .pTerm j .uTx) (ReceiverAt a a.opTask a.opQty a.opQty.toNat .pTerm j .uRx) := by
  induction k generalizing i with
  | zero =>
    obtain ⟨-, -, -, -, hlast, -⟩ := nextPhase_table i a.opQty
    have hword := advances_word (by omega) (hlast hk)
    rw [show i.toNat + 1 = a.opQty.toNat from hk] at hword
    exact ⟨i, hword⟩
  | succ k ih =>
    obtain ⟨-, -, -, hmore, -, -⟩ := nextPhase_table i a.opQty
    have hnext : (i + 1).toNat = i.toNat + 1 := by bv_omega
    obtain ⟨j, hrest⟩ := ih (i + 1) (by omega)
    have hword := advances_word (by omega) (hmore (by omega))
    rw [← hnext] at hword
    have hall := hword.trans hrest
    rw [show 6 + 6 * (k + 1) = 6 * (k + 1 + 1) by omega] at hall
    exact ⟨j, hall⟩

/-- The quantity and all the words, none included. -/
theorem advances_message (h64 : a.opQty.toNat ≤ 64) :
    ∃ j, Advances (4 + 6 * a.opQty.toNat) (SenderAt a .pQty 0 .uTx) (ReceiverAt a a.opTask q 0 .pQty 0 .uRx)
      (SenderAt a .pTerm j .uTx) (ReceiverAt a a.opTask a.opQty a.opQty.toNat .pTerm j .uRx) := by
  obtain ⟨-, hsome, hnone, -⟩ := nextPhase_table 0 a.opQty
  rcases hQ : a.opQty.toNat with _ | k
  · have hqty := advances_qty (q := q) (n := 0) h64 (hnone (BitVec.eq_of_toNat_eq hQ))
    exact ⟨0, hqty⟩
  · obtain ⟨j, hwords⟩ := advances_words h64 k 0 (by simp [hQ])
    have hqty := advances_qty (q := q) (n := 0) h64 (hsome (by omega))
    rw [hQ] at hwords
    exact ⟨j, hqty.trans hwords⟩

/-- The whole exchange but the two completions: P_TASK to P_DONE at both ends. -/
theorem advances_exchange (h64 : a.opQty.toNat ≤ 64) :
    ∃ j, Advances (6 * a.opQty.toNat + 12) (SenderAt a .pTask 0 .uTx) (ReceiverAt a t q 0 .pTask 0 .uRx)
      (SenderAt a .pDone j .uTx) (ReceiverAt a a.opTask a.opQty a.opQty.toNat .pDone j .uRx) := by
  obtain ⟨j, hmessage⟩ := advances_message (q := q) h64
  have hall := ((advances_task (t := t)).trans hmessage).trans advances_term
  rw [show 4 + (4 + 6 * a.opQty.toNat) + 4 = 6 * a.opQty.toNat + 12 by omega] at hall
  exact ⟨j, hall⟩

end

/-! ## The two ends of an accepted SEND and an accepted RECEIVE -/

theorem senderAt_acceptSend {a : State} (hh : a.host = []) (h64 : a.opQty.toNat ≤ 64) :
    SenderAt a .pTask 0 .uTx (acceptSend a) := by
  rw [acceptSend_legal h64]
  exact { host := hh, role := rfl, phase := rfl, idx := rfl, ustep := rfl, task := rfl, qty := rfl, crc := rfl
          words := msgWord_congr _ _ rfl rfl, word := nofun }

theorem receiverAt_acceptReceive {a b : State} (hh : b.host = []) (hc : a.params.crc = b.params.crc) :
    ReceiverAt a Config.badTask 0 0 .pTask 0 .uRx (acceptReceive b) :=
  { host := hh, role := rfl, phase := rfl, idx := rfl, ustep := rfl, task := rfl, qty := rfl, crc := hc.symm
    words := nofun, acked := nofun, word := nofun }

theorem complete_host (ok : Bool) (s : State) : (complete ok s).host = s.host := by
  unfold complete; split <;> rfl

/-- A pair of which both ends have completed is at rest. -/
theorem atRest_completed {s r : State} (ok ok' : Bool) (hs : s.host = []) (hr : r.host = []) (q p : List Frame) :
    AtRest ⟨complete ok s, complete ok' r, q, p⟩ where
  leftHost := (complete_host ok s).trans hs
  leftIdle := complete_role ok s
  rightHost := (complete_host ok' r).trans hr
  rightIdle := complete_role ok' r

/-- A successful RECEIVE's completion gives T and Q to the host (R170). -/
theorem complete_receiver {r : State} (hr : r.role = .receiver) :
    (complete true r).resTask = r.t ∧ (complete true r).resQty = r.q := by
  simp [complete, hr]

/-- Both ends complete: the results are the message's, which the Receiver holds. -/
theorem linkPath_exchange {a b : State} (ha : a.host = []) (hb : b.host = []) (h64 : a.opQty.toNat ≤ 64)
    (hc : a.params.crc = b.params.crc) :
    ∃ s r, LinkPath (6 * a.opQty.toNat + 14) (quietLink (acceptSend a) (acceptReceive b))
        (quietLink (complete true s) (complete true r)) ∧
      s.host = [] ∧ ∃ j, ReceiverAt a a.opTask a.opQty a.opQty.toNat .pDone j .uRx r := by
  obtain ⟨j, hex⟩ := advances_exchange (t := Config.badTask) (q := 0) h64
  obtain ⟨s, r, hp, hs, hr⟩ := hex _ _ (senderAt_acceptSend ha h64) (receiverAt_acceptReceive hb hc)
  have hleft := endMove_complete true hs.host hs.role_ne_idle hs.phase
  have hright := endMove_complete true hr.host hr.role_ne_idle hr.phase
  exact ⟨s, r, hp.trans (.move (hleft.linkLeft (q := []) (p := [])) (.move (hright.linkRight (q := []) (p := []))
    (.refl _))), hs.host, j, hr⟩

/-- A legal SEND delivers the message under every schedule. -/
theorem loopback_delivers (a b : State) (sched : List Bool) (ha : a.host = []) (hb : b.host = [])
    (h64 : a.opQty.toNat ≤ 64) (hc : a.params.crc = b.params.crc) (hn : 6 * a.opQty.toNat + 14 ≤ sched.length) :
    ∃ l, linkRun sched (quietLink (acceptSend a) (acceptReceive b)) = l ∧
      l.left.role = .idle ∧ l.right.role = .idle ∧ l.left.statusDone = true ∧ l.right.statusDone = true ∧
      l.left.statusOk = true ∧ l.right.statusOk = true ∧
      l.right.resTask = a.opTask ∧ l.right.resQty = a.opQty ∧
      ∀ i : Nat, i < a.opQty.toNat → l.right.msgWord i = a.msgWord i := by
  obtain ⟨s, r, hp, hs, j, hr⟩ := linkPath_exchange ha hb h64 hc
  obtain ⟨htask, hqty⟩ := complete_receiver hr.role
  refine ⟨_, linkRun_of_path hp (atRest_completed true true hs hr.host [] []) hn, complete_role _ _, complete_role _ _,
    complete_statusDone _ _, complete_statusDone _ _, complete_statusOk _ _, complete_statusOk _ _,
    htask.trans hr.task, hqty.trans hr.qty, fun i hi => ?_⟩
  exact (complete_words true r i).trans (hr.words i hi)

end Sys2Proof.Machine

/-! SUPPORT. A SEND of too many words over the lossless loopback (program P12): the Sender fails at once, the Receiver's
window closes and it answers with the bad-task sentinel; and the obligation about the loopback. -/

namespace Sys2Proof.Machine

/-! ## A window that closes -/

/-- Polls that find nothing: an inner loop uses them up and returns nothing (R115). -/
theorem pollRound_silent (round n i : Nat) (s : State) (rest : List (Option Frame))
    (h : s.answers = List.replicate n none ++ rest) :
    (pollRound round n i s).1 = none ∧ (pollRound round n i s).2.answers = rest := by
  induction n generalizing i s with
  | zero => exact ⟨rfl, h⟩
  | succ n ih =>
    rw [List.replicate_succ, List.cons_append] at h
    simp only [pollRound]
    rw [pollOnce_listed { s with pr := round, pi := i } none _ h]
    exact ih (i + 1) _ rfl

theorem pollRounds_silent (n round : Nat) (s : State) (rest : List (Option Frame))
    (h : s.answers = List.replicate (n * s.params.pollIters) none ++ rest) : (pollRounds n round s).1 = none := by
  induction n generalizing round s with
  | zero => rfl
  | succ n ih =>
    rw [Nat.succ_mul, Nat.add_comm, List.replicate_add, List.append_assoc] at h
    obtain ⟨hnone, hanswers⟩ := pollRound_silent round s.params.pollIters 0 s _ h
    obtain ⟨a, p, tr, r, k, hs⟩ := pollRound_spec round s.params.pollIters 0 s
    have hparams : (pollRound round s.params.pollIters 0 s).2.params = s.params := by rw [hs]
    simp only [pollRounds]
    rcases hp : pollRound round s.params.pollIters 0 s with ⟨f, s'⟩
    rw [hp] at hnone hanswers hparams
    obtain rfl : f = none := hnone
    exact ih (round + 1) s' (by rw [hparams]; exact hanswers)

/-- RECV returns nothing when every poll of its window finds nothing (R115). -/
theorem recv_silent (s : State)
    (h : s.answers = List.replicate (s.params.pollRounds * s.params.pollIters) none) : (recv s).1 = none :=
  pollRounds_silent s.params.pollRounds 0 (beginListening s) [] (by rw [List.append_nil]; exact h)

@[simp] theorem recv_host (s : State) : (recv s).2.host = s.host :=
  recv_keeps State.host (fun _ _ _ _ _ _ _ => rfl) s
@[simp] theorem recv_t (s : State) : (recv s).2.t = s.t :=
  recv_keeps State.t (fun _ _ _ _ _ _ _ => rfl) s

/-- A Receiver that hears nothing fails its wait by MISS (R182). -/
theorem judge_silence {s : State} (hr : s.role = .receiver) (hw : s.awaits = true) :
    judge none s = .next { s with ackok := false, ustep := .uTxa, cause := some .miss } := by
  obtain ⟨k, hk⟩ := (awaits_iff s).mp hw
  have hack : k ≠ .ack := expected_receiver s.phase s.ustep k (by rw [← hr]; exact hk)
  rw [judge_fails none s k .miss hk (by simp [acceptFrame, missCause, hack]), failStep_receiver .miss s hr]

/-- The state before the RECV of a window in which every poll finds nothing (R50, log 25). -/
def State.unanswered (s : State) : State :=
  { s with answers := List.replicate (s.params.pollRounds * s.params.pollIters) none }

/-- The state of a Receiver after the wait whose window closed. -/
def State.missing (s : State) : State :=
  { (recv s.unanswered).2 with ackok := false, ustep := .uTxa, cause := some .miss }

/-- The window of a Receiver that listens to an empty queue closes: it misses its frame and sends nothing. -/
theorem endWindow_misses {r : State} (hh : r.host = []) (hr : r.role = .receiver) (hw : r.awaits = true) :
    endWindow r [] = some (r.missing, [], []) := by
  have hrecv : recv r.unanswered = (none, (recv r.unanswered).2) := Prod.ext (recv_silent _ rfl) rfl
  have hw' : (recv r.unanswered).2.awaits = true := by
    rw [State.awaits, recv_role, recv_phase, recv_ustep]; exact hw
  have hawait : awaitStep r.unanswered = .next r.missing := by
    rw [awaitStep_none _ _ hrecv]
    exact judge_silence ((recv_role _).trans hr) hw'
  have hstep := (step_awaits (s := r.unanswered) hh hw).trans hawait
  rw [endWindow, listens_eq_awaits hh, hw]
  exact endMoves_of_step [] hstep (awaitStep_sends hawait)

/-- A Receiver about to answer that it heard no Task frame. -/
structure Missed (b : State) (r : State) : Prop where
  host : r.host = []
  role : r.role = .receiver
  phase : r.phase = .pTask
  ustep : r.ustep = .uTxa
  ackok : r.ackok = false
  task : r.t = Config.badTask
  cause : r.cause = some .miss
  msgbuf : r.msgbuf = b.msgbuf

theorem missed_acceptReceive {b : State} (hb : b.host = []) : Missed b (acceptReceive b).missing where
  host := (recv_host _).trans hb
  role := recv_role _
  phase := recv_phase _
  ustep := rfl
  ackok := rfl
  task := recv_t _
  cause := rfl
  msgbuf := recv_msgbuf _

/-! ## The refused exchange -/

/-- A Receiver that missed the Task frame answers with the bad-task sentinel and fails (R166). -/
theorem Missed.answers {b r : State} (h : Missed b r) :
    ∃ r', EndMove r [] [⟨0xBAD, 13⟩] r' ∧ r'.host = [] ∧ r'.role = .receiver ∧ r'.phase = .pFail ∧
      r'.cause = some .miss ∧ r'.msgbuf = b.msgbuf := by
  have hstep : engineStep r = sendAckStep r := by
    rw [engineStep_receiver h.role (by rw [h.phase]; rfl), receiverStep, h.ustep]
  have hnack : ¬r.ackok = true := by simp [h.ackok]
  have hvalue : ackValue r.t r.ackok = 0xBAD := by rw [h.task, h.ackok]; decide
  rw [sendAckStep, if_neg hnack, hvalue] at hstep
  exact ⟨_, endMove_of_engineStep h.host (by simp [h.role]) (by rw [State.awaits, h.role, h.phase, h.ustep]; rfl)
    hstep (sends_xmit _ _ rfl), h.host, h.role, rfl, h.cause, h.msgbuf⟩

theorem complete_cause (ok : Bool) (s : State) : (complete ok s).cause = s.cause := by
  unfold complete; split <;> rfl

theorem complete_msgbuf (ok : Bool) (s : State) : (complete ok s).msgbuf = s.msgbuf := by
  unfold complete; split <;> rfl

/-- When the left end is at rest and the right end listens to an empty queue, the right end's window closes. -/
theorem linkStep_window {s r r' : State} {p sent : List Frame} (b : Bool) (hs : s.host = []) (hi : s.role = .idle)
    (hr : r.host = []) (hw : r.awaits = true) (h : endWindow r [] = some (r', sent, [])) :
    linkStep b ⟨s, r, [], p⟩ = ⟨s, r', [], p ++ sent⟩ := by
  have hleft : linkLeft ⟨s, r, [], p⟩ = none := by
    simp [linkLeft, endStep, endAlone_atRest p hs hi, endAlone_listening hr hw,
      endWindow_none p hs (not_awaits_of_idle hi)]
  have hright : linkRight ⟨s, r, [], p⟩ = some ⟨s, r', [], p ++ sent⟩ := by
    simp [linkRight, endStep, endAlone_atRest p hs hi, endAlone_listening hr hw, h]
  cases b <;> simp [linkStep, hleft, hright]

/-- While the right end listens to an empty queue, the left end alone moves. -/
theorem linkStep_left {s r t : State} {p sent rest : List Frame} (b : Bool) (hr : r.host = []) (hw : r.awaits = true)
    (h : endAlone s p = some (t, sent, rest)) : linkStep b ⟨s, r, [], p⟩ = ⟨t, r, sent, rest⟩ := by
  refine linkStep_eq b (.left h) ?_
  rintro _ (h' | h')
  · rw [h] at h'; cases h'; rfl
  · simp [endAlone_listening hr hw] at h'

/-- A refused SEND ends both ends in failure under every schedule, and the Receiver answers (P12). -/
theorem loopback_refused (a b : State) (sched : List Bool) (ha : a.host = []) (hb : b.host = [])
    (h64 : 64 < a.opQty.toNat) (hn : 4 ≤ sched.length) :
    ∃ r, linkRun sched (quietLink (acceptSend a) (acceptReceive b)) =
        ⟨complete false (acceptSend a), complete false r, [], [⟨0xBAD, 13⟩]⟩ ∧
      r.cause = some .miss ∧ r.msgbuf = b.msgbuf := by
  have hhost : (acceptSend a).host = [] := by rw [acceptSend_refused h64]; exact ha
  have hphase : (acceptSend a).phase = .pFail := by rw [acceptSend_refused h64]
  have hrole : (acceptSend a).role ≠ .idle := by rw [(acceptSend_status a).2.1]; simp
  have hfail := endMove_complete false hhost hrole hphase
  have hidle : (complete false (acceptSend a)).host = [] := (complete_host _ _).trans hhost
  have hlisten : (acceptReceive b).host = [] := hb
  obtain ⟨r, hanswer, hrhost, hrrole, hrphase, hcause, hmsgbuf⟩ := (missed_acceptReceive hb).answers
  have hdone := endMove_complete false hrhost (by simp [hrrole]) hrphase
  have hpath : LinkPath 2 (quietLink (complete false (acceptSend a)) (acceptReceive b).missing)
      ⟨complete false (acceptSend a), complete false r, [], [⟨0xBAD, 13⟩]⟩ :=
    .move (hanswer.linkRight (q := []) (p := [])) (.move (hdone.linkRight (q := []) (p := [_])) (.refl _))
  match sched, hn with
  | b₁ :: b₂ :: bs, hn =>
    have hfails : linkStep b₁ (quietLink (acceptSend a) (acceptReceive b)) =
        quietLink (complete false (acceptSend a)) (acceptReceive b) := linkStep_left b₁ hlisten rfl (hfail [])
    have hcloses : linkStep b₂ (quietLink (complete false (acceptSend a)) (acceptReceive b)) =
        quietLink (complete false (acceptSend a)) (acceptReceive b).missing :=
      linkStep_window b₂ hidle (complete_role _ _) hlisten rfl (endWindow_misses hlisten rfl rfl)
    refine ⟨r, ?_, hcause, hmsgbuf⟩
    rw [linkRun, linkRun, hfails, hcloses]
    exact linkRun_of_path hpath (atRest_completed false false hhost hrhost _ _) (by simpa using hn)

/-- Settles O60: the moves of the two ends commute, so every schedule ends as one run does; the run is followed round by
round for a legal quantity, and through the closing window for a refused one. -/
theorem losslessLoopbackDeliversTheMessage : Obligations.LosslessLoopbackDeliversTheMessage := by
  constructor
  · intro a b sched _ _ _ _ ha hb h64 hn
    obtain ⟨r, hrun, hcause, hmsgbuf⟩ := loopback_refused a b sched ha hb h64 hn
    exact ⟨_, hrun, complete_role _ _, complete_role _ _, complete_statusDone _ _, complete_statusDone _ _,
      complete_statusOk _ _, complete_statusOk _ _, rfl, (complete_cause _ _).trans hcause,
      (complete_msgbuf _ _).trans hmsgbuf, rfl⟩
  · intro a b sched _ _ _ _ ha hb h64 hc hn
    exact loopback_delivers a b sched ha hb h64 hc hn

end Sys2Proof.Machine

/-! SUPPORT. The encoding (spec/30_encoding.md): frame words as their two fields, the seven frame rows as the frames
that stand for them, all that the decoder answers, the opcode map by fields, and the obligations about them. -/

namespace Sys2Proof.Machine

/-! ## Frame words -/

/-- A frame word is its tag field followed by its value field (R60). -/
theorem word_eq_append (f : Frame) : f.word = BitVec.ofNat 6 f.tag ++ f.value := by
  rw [BitVec.append_def, BitVec.shiftLeftZeroExtend_eq, BitVec.setWidth'_eq]; rfl

/-- A frame whose tag has six bits is read back from its frame word (R60). -/
theorem frameOfWord_word {f : Frame} (h : f.tag < 64) : frameOfWord f.word = f := by
  have htag : frameWordTag f.word = f.tag := by
    rw [frameWordTag, word_eq_append, BitVec.extractLsb'_append_eq_left, BitVec.toNat_ofNat]
    exact Nat.mod_eq_of_lt h
  have hvalue : frameWordValue f.word = f.value := by
    rw [frameWordValue, word_eq_append, BitVec.extractLsb'_append_eq_right]
  rw [frameOfWord, htag, hvalue]

/-- Frames whose tags have six bits are told apart by their frame words (R60). -/
theorem word_inj {f g : Frame} (hf : f.tag < 64) (hg : g.tag < 64) : f.word = g.word ↔ f = g := by
  refine ⟨fun h => ?_, fun h => congrArg Frame.word h⟩
  rw [← frameOfWord_word hf, h, frameOfWord_word hg]

/-- Every frame word is the word of the frame it stands for (R60). -/
theorem word_frameOfWord (fw : FrameWord) : (frameOfWord fw).word = fw := by
  rw [word_eq_append]
  simp only [frameOfWord, frameWordTag, frameWordValue, BitVec.ofNat_toNat, BitVec.setWidth_eq]
  exact (BitVec.extractLsb'_append_extractLsb'_eq_extractLsb' (by decide)).trans BitVec.extractLsb'_eq_self

/-- A mask that keeps the tag acts on the value alone: the tag 63 is the six one bits. -/
theorem word_and_mask (f : Frame) (m : Word) :
    f.word &&& Frame.word ⟨m, 63⟩ = Frame.word ⟨f.value &&& m, f.tag⟩ := by
  have hones (x : BitVec 6) : x &&& BitVec.ofNat 6 63 = x := BitVec.and_allOnes
  rw [word_eq_append, word_eq_append, word_eq_append, BitVec.and_append, hones]

theorem kindToTag_lt (k : Kind) : kindToTag k < 64 := by cases k <;> decide

/-- The frame word of a frame with a tag below 64 decodes as the frame (R60). -/
theorem decodeFrame_word {f : Frame} (h : f.tag < 64) : decodeFrame f.word = decodePair f := by
  rw [decodeFrame, frameOfWord_word h]

/-! ## Payload fields as masks -/

/-- A field that starts at bit 0 is the value with the bits above it cleared. -/
theorem setWidth_lowField (n : Nat) (hn : n ≤ 32) (v : Word) :
    (v.extractLsb' 0 n).setWidth 32 = v &&& BitVec.ofNat 32 (2 ^ n - 1) := by
  have hpow : 2 ^ n ≤ 2 ^ 32 := Nat.pow_le_pow_right (by decide) hn
  apply BitVec.eq_of_toNat_eq
  rw [BitVec.toNat_and, BitVec.toNat_ofNat, Nat.mod_eq_of_lt (by omega), Nat.and_two_pow_sub_one_eq_mod,
    BitVec.toNat_setWidth, BitVec.extractLsb'_toNat, Nat.shiftRight_zero]
  exact Nat.mod_eq_of_lt (Nat.lt_of_lt_of_le (Nat.mod_lt _ (Nat.two_pow_pos n)) hpow)

theorem taskValue_taskField (v : Word) : taskValue (taskField v) = v &&& 0xFFF :=
  setWidth_lowField 12 (by decide) v

theorem qtyField_eq_mask (v : Word) : (qtyField v).setWidth 32 = v &&& 0x3FFF :=
  setWidth_lowField 14 (by decide) v

theorem csumValue_csumField (v : Word) : csumValue (csumField v) = v &&& 0xFFFF :=
  setWidth_lowField 16 (by decide) v

theorem termField_eq_mask (v : Word) : (termField v).setWidth 32 = v &&& 0x7FFF :=
  setWidth_lowField 15 (by decide) v

/-- An acknowledgment value is its status followed by its echo (R63). -/
theorem encodeAck_eq_append (e : Task) (b : Bool) : encodeAck e b = BitVec.ofBool b ++ e := by
  rw [BitVec.append_def, BitVec.shiftLeftZeroExtend_eq, BitVec.setWidth'_eq]; rfl

/-- Encoding the echo and the status of a value gives its acknowledgment field back (R63). -/
theorem encodeAck_taskField (v : Word) : encodeAck (taskField v) (v.getLsbD 12) = ackField v := by
  have hbit : BitVec.ofBool (v.getLsbD 12) = v.extractLsb' 12 1 := by
    ext i hi
    obtain rfl : i = 0 := by omega
    simp
  rw [encodeAck_eq_append, hbit]
  exact BitVec.extractLsb'_append_extractLsb'_eq_extractLsb' (by decide)

theorem ackValue_taskField (v : Word) : ackValue (taskField v) (v.getLsbD 12) = v &&& 0x1FFF := by
  rw [ackValue, encodeAck_taskField]
  exact setWidth_lowField 13 (by decide) v

/-- The status bit under its mask (R63). -/
theorem and_statusBit (v : Word) : v &&& 0x1000 = if v.getLsbD 12 then 0x1000 else 0 :=
  BitVec.and_twoPow v 12

theorem statusBit_set_iff (v : Word) : v &&& 0x1000 = 0x1000 ↔ v.getLsbD 12 = true := by
  rw [and_statusBit]
  cases v.getLsbD 12 <;> decide

theorem statusBit_clear_iff (v : Word) : v &&& 0x1000 = 0 ↔ v.getLsbD 12 = false := by
  rw [and_statusBit]
  cases v.getLsbD 12 <;> decide

/-- The sentinel field under its mask (R65). -/
theorem termField_eq_iff (v : Word) : termField v = Config.termValue ↔ v &&& 0x7FFF = 0xE2D := by
  rw [← termField_eq_mask]
  refine ⟨fun h => by rw [h]; rfl, fun h => ?_⟩
  have hlow := congrArg (BitVec.setWidth 15) h
  rwa [BitVec.setWidth_setWidth_of_le _ (by decide), BitVec.setWidth_eq] at hlow

/-- The sentinel field as a number (R71). -/
theorem termField_eq_iff_mod (v : Word) : termField v = Config.termValue ↔ v.toNat % 2 ^ 15 = 0xE2D := by
  rw [← BitVec.toNat_inj, termField, BitVec.extractLsb'_toNat, Nat.shiftRight_zero]
  rfl

/-! ## The frame rows -/

/-- The seven frame rows of the table: the kind and the value of the frame that stands for the instruction, unused bits
0 (R61 to R67, R69). -/
inductive FrameRow : Instr → Kind → Word → Prop
  | task (t : Task) : FrameRow (.task t) .task (taskValue t)
  | ack (e : Task) : FrameRow (.ack e) .ack (ackValue e true)
  | nack (e : Task) : FrameRow (.nack e) .ack (ackValue e false)
  | qty (q : BitVec 14) : FrameRow (.qty q) .quantity (q.setWidth 32)
  | term : FrameRow .term .terminator termValue
  | csum (c : Crc) : FrameRow (.csum c) .checksum (csumValue c)
  | data (w : Word) : FrameRow (.data w) .data w

/-- An instruction that has a frame kind is a frame row of that kind. -/
theorem frameRow_of_frameKind {i : Instr} {k : Kind} (h : frameKind i = some k) : ∃ v, FrameRow i k v := by
  cases i <;> cases h
  case task t => exact ⟨_, .task t⟩
  case ack e => exact ⟨_, .ack e⟩
  case nack e => exact ⟨_, .nack e⟩
  case qty q => exact ⟨_, .qty q⟩
  case term => exact ⟨_, .term⟩
  case csum c => exact ⟨_, .csum c⟩
  case data w => exact ⟨_, .data w⟩

/-- Running a frame row is judging its frame (log 8). -/
theorem FrameRow.exec_eq_judge {i : Instr} {k : Kind} {v : Word} (h : FrameRow i k v) (s : State) :
    exec i s = judge (some (frameOf k v)) s := by
  cases h <;> rfl

/-- A task widened in two stages is the task widened at once. -/
theorem setWidth_task (e : Task) : (e.setWidth 13).setWidth 32 = e.setWidth 32 := by
  apply BitVec.eq_of_toNat_eq
  rw [BitVec.toNat_setWidth, BitVec.toNat_setWidth, BitVec.toNat_setWidth]
  omega

/-- The positive acknowledgment as the encoder assembles it (R63). -/
theorem ackValue_true (e : Task) : ackValue e true = 0x1000#32 ||| e.setWidth 32 := by
  rw [ackValue, encodeAck, BitVec.setWidth_or, setWidth_task]
  rfl

theorem ackValue_false (e : Task) : ackValue e false = e.setWidth 32 := by
  rw [ackValue, encodeAck, BitVec.setWidth_or, setWidth_task]
  exact BitVec.zero_or

/-- A frame row is encoded as the frame word of its frame (R60). -/
theorem FrameRow.encode_eq {i : Instr} {k : Kind} {v : Word} (h : FrameRow i k v) :
    encode i = some (.frame (frameOf k v).word) := by
  cases h with
  | ack e => rw [ackValue_true]; rfl
  | nack e => rw [ackValue_false]; rfl
  | _ => rfl

/-- What has an encoding is a frame row or a command (R76). -/
theorem encode_cases {i : Instr} {cw : CodeWord} (h : encode i = some cw) :
    (∃ k v, FrameRow i k v) ∨ ∃ c, i = decodeCommand c := by
  cases hk : frameKind i with
  | some k => exact .inl ⟨k, frameRow_of_frameKind hk⟩
  | none =>
    right
    cases i <;> cases hk <;> cases h
    case none.nop => exact ⟨0, rfl⟩
    case none.send => exact ⟨1, rfl⟩
    case none.receive => exact ⟨2, rfl⟩
    case none.reserved3 => exact ⟨3, rfl⟩

theorem encode_decodeCommand : ∀ c : CmdCode, encode (decodeCommand c) = some (.command c) := by decide

/-! ## The decoder -/

/-- All that the decoder answers for a frame: a row by its tag (R61 to R67), or one of the two rejections (R70, R71). -/
inductive Decoding (f : Frame) : Except DecodeError Instr → Prop
  | task (ht : f.tag = 12) : Decoding f (.ok (.task (taskField f.value)))
  | ack (ht : f.tag = 13) (hs : f.value.getLsbD 12 = true) : Decoding f (.ok (.ack (taskField f.value)))
  | nack (ht : f.tag = 13) (hs : f.value.getLsbD 12 = false) : Decoding f (.ok (.nack (taskField f.value)))
  | qty (ht : f.tag = 14) : Decoding f (.ok (.qty (qtyField f.value)))
  | term (ht : f.tag = 15) (hv : termField f.value = Config.termValue) : Decoding f (.ok .term)
  | badSentinel (ht : f.tag = 15) (hv : termField f.value ≠ Config.termValue) :
      Decoding f (.error (.invalidTerminator (termField f.value)))
  | csum (ht : f.tag = 16) : Decoding f (.ok (.csum (csumField f.value)))
  | data (ht : f.tag = 32) : Decoding f (.ok (.data f.value))
  | badTag (ht : f.tag ≠ 12 ∧ f.tag ≠ 13 ∧ f.tag ≠ 14 ∧ f.tag ≠ 15 ∧ f.tag ≠ 16 ∧ f.tag ≠ 32) :
      Decoding f (.error (.unrecognisedTag f.tag))

theorem decoding_decodePair (f : Frame) : Decoding f (decodePair f) := by
  unfold decodePair
  simp only
  split
  case isTrue h => exact .task h
  case isFalse h12 =>
  split
  case isTrue h =>
    split
    · next hs => exact .ack h hs
    · next hs => exact .nack h (by simpa using hs)
  case isFalse h13 =>
  split
  case isTrue h => exact .qty h
  case isFalse h14 =>
  split
  case isTrue h =>
    split
    · next hv => exact .term h hv
    · next hv => exact .badSentinel h hv
  case isFalse h15 =>
  split
  case isTrue h => exact .csum h
  case isFalse h16 =>
  split
  case isTrue h => exact .data h
  case isFalse h32 => exact .badTag ⟨h12, h13, h14, h15, h16, h32⟩

/-- The decoder answers a frame in exactly one of those ways. -/
theorem decodePair_eq_iff {f : Frame} {r : Except DecodeError Instr} : decodePair f = r ↔ Decoding f r := by
  refine ⟨fun h => h ▸ decoding_decodePair f, fun h => ?_⟩
  cases h with
  | task ht => simp [decodePair, ht, taskField]
  | ack ht hs => simpa [decodePair, ht, taskField] using hs
  | nack ht hs => simpa [decodePair, ht, taskField] using hs
  | qty ht => simp [decodePair, ht, qtyField]
  | term ht hv => rw [termField] at hv; simp [decodePair, ht, hv]
  | badSentinel ht hv => rw [termField] at hv ⊢; simp [decodePair, ht, hv]
  | csum ht => simp [decodePair, ht, csumField]
  | data ht => simp [decodePair, ht]
  | badTag ht => simp [decodePair, ht]

/-- A frame row is what its frame decodes to (R61). -/
theorem FrameRow.decodePair_eq {i : Instr} {k : Kind} {v : Word} (h : FrameRow i k v) :
    decodePair (frameOf k v) = .ok i := by
  have hstatus (e : Task) (b : Bool) : (ackValue e b).getLsbD 12 = b := by
    simpa [decodeStatus, ackValue] using decodeStatus_encodeAck e b
  have hecho (e : Task) (b : Bool) : taskField (ackValue e b) = e := by
    rw [← echo_ackField, ackField_ackValue, echo_encodeAck]
  rw [decodePair_eq_iff]
  cases h with
  | task t => simpa using Decoding.task (f := frameOf .task (taskValue t)) rfl
  | ack e => simpa [hecho] using Decoding.ack (f := frameOf .ack (ackValue e true)) rfl (hstatus e true)
  | nack e => simpa [hecho] using Decoding.nack (f := frameOf .ack (ackValue e false)) rfl (hstatus e false)
  | qty q => simpa using Decoding.qty (f := frameOf .quantity (q.setWidth 32)) rfl
  | term => exact .term rfl termField_termValue
  | csum c => simpa using Decoding.csum (f := frameOf .checksum (csumValue c)) rfl
  | data w => exact .data rfl

/-- What a frame decodes to is the row of its value with the bits outside the row's fields cleared (R69). -/
theorem Decoding.frameRow {f : Frame} {i : Instr} (h : Decoding f (.ok i)) :
    ∃ k m, FrameRow i k (f.value &&& m) ∧ f.tag = kindToTag k ∧ definedBits i = Frame.word ⟨m, 63⟩ := by
  cases h with
  | task ht => exact ⟨.task, 0xFFF, taskValue_taskField f.value ▸ .task _, ht, rfl⟩
  | ack ht hs => exact ⟨.ack, 0x1FFF, ackValue_taskField f.value ▸ hs ▸ .ack _, ht, rfl⟩
  | nack ht hs => exact ⟨.ack, 0x1FFF, ackValue_taskField f.value ▸ hs ▸ .nack _, ht, rfl⟩
  | qty ht => exact ⟨.quantity, 0x3FFF, qtyField_eq_mask f.value ▸ .qty _, ht, rfl⟩
  | term ht hv => exact ⟨.terminator, 0x7FFF, (termField_eq_iff f.value).mp hv ▸ .term, ht, rfl⟩
  | csum ht => exact ⟨.checksum, 0xFFFF, csumValue_csumField f.value ▸ .csum _, ht, rfl⟩
  | data ht => exact ⟨.data, BitVec.allOnes 32, by rw [BitVec.and_allOnes]; exact .data _, ht, rfl⟩

/-! ## The opcode map by fields -/

/-- A frame word is of a row's kind when its tag is the row's and its value has the row's bits under the row's mask. -/
theorem hits_iff {r : OpcodeRow} {m x : Word} {w : Tag} (hmask : r.maskBits = Frame.word ⟨m, 63⟩)
    (hmatch : r.matchBits = Frame.word ⟨x, w⟩) (hw : w < 64) (fw : FrameWord) :
    r.hits fw = true ↔ (frameOfWord fw).tag = w ∧ (frameOfWord fw).value &&& m = x := by
  have hword : fw &&& r.maskBits = Frame.word ⟨(frameOfWord fw).value &&& m, (frameOfWord fw).tag⟩ := by
    rw [hmask, ← word_and_mask, word_frameOfWord]
  have htag : (frameOfWord fw).tag < 64 := BitVec.isLt _
  rw [OpcodeRow.hits, beq_iff_eq, hword, hmatch, and_comm, ← Frame.mk.injEq]
  exact word_inj htag hw

/-- Where a row fixes the tag alone, the tag decides. -/
theorem hits_iff_tag {r : OpcodeRow} {w : Tag} (hmask : r.maskBits = Frame.word ⟨0, 63⟩)
    (hmatch : r.matchBits = Frame.word ⟨0, w⟩) (hw : w < 64) (fw : FrameWord) :
    r.hits fw = true ↔ (frameOfWord fw).tag = w :=
  (hits_iff hmask hmatch hw fw).trans (and_iff_left BitVec.and_zero)

theorem hits_task (fw : FrameWord) : opcodeRows[0].hits fw = true ↔ (frameOfWord fw).tag = 12 :=
  hits_iff_tag rfl rfl (by decide) fw

theorem hits_ack (fw : FrameWord) :
    opcodeRows[1].hits fw = true ↔ (frameOfWord fw).tag = 13 ∧ (frameOfWord fw).value.getLsbD 12 = true := by
  rw [← statusBit_set_iff]
  exact hits_iff rfl rfl (by decide) fw

theorem hits_nack (fw : FrameWord) :
    opcodeRows[2].hits fw = true ↔ (frameOfWord fw).tag = 13 ∧ (frameOfWord fw).value.getLsbD 12 = false := by
  rw [← statusBit_clear_iff]
  exact hits_iff rfl rfl (by decide) fw

theorem hits_qty (fw : FrameWord) : opcodeRows[3].hits fw = true ↔ (frameOfWord fw).tag = 14 :=
  hits_iff_tag rfl rfl (by decide) fw

theorem hits_term (fw : FrameWord) : opcodeRows[4].hits fw = true ↔
    (frameOfWord fw).tag = 15 ∧ termField (frameOfWord fw).value = Config.termValue := by
  rw [termField_eq_iff]
  exact hits_iff rfl rfl (by decide) fw

theorem hits_csum (fw : FrameWord) : opcodeRows[5].hits fw = true ↔ (frameOfWord fw).tag = 16 :=
  hits_iff_tag rfl rfl (by decide) fw

theorem hits_data (fw : FrameWord) : opcodeRows[6].hits fw = true ↔ (frameOfWord fw).tag = 32 :=
  hits_iff_tag rfl rfl (by decide) fw

/-- A frame word that a row of the map hits decodes to an instruction of that row (R76). -/
theorem decodeFrame_of_hits {fw : FrameWord} {r : OpcodeRow} (hr : r ∈ opcodeRows) (h : r.hits fw = true) :
    ∃ i, decodeFrame fw = .ok i ∧ i.mnemonic = r.mnemonic := by
  suffices hd : ∃ i, Decoding (frameOfWord fw) (.ok i) ∧ i.mnemonic = r.mnemonic by
    obtain ⟨i, hi, hm⟩ := hd
    exact ⟨i, decodePair_eq_iff.mpr hi, hm⟩
  simp only [opcodeRows, List.mem_cons, List.not_mem_nil, or_false] at hr
  obtain rfl | rfl | rfl | rfl | rfl | rfl | rfl := hr
  · exact ⟨_, .task ((hits_task fw).mp h), rfl⟩
  · obtain ⟨ht, hs⟩ := (hits_ack fw).mp h
    exact ⟨_, .ack ht hs, rfl⟩
  · obtain ⟨ht, hs⟩ := (hits_nack fw).mp h
    exact ⟨_, .nack ht hs, rfl⟩
  · exact ⟨_, .qty ((hits_qty fw).mp h), rfl⟩
  · obtain ⟨ht, hv⟩ := (hits_term fw).mp h
    exact ⟨_, .term ht hv, rfl⟩
  · exact ⟨_, .csum ((hits_csum fw).mp h), rfl⟩
  · exact ⟨_, .data ((hits_data fw).mp h), rfl⟩

/-- A frame word that decodes is hit by a row of the map, that of the instruction's mnemonic (R76). -/
theorem exists_hit_of_decodeFrame {fw : FrameWord} {i : Instr} (h : decodeFrame fw = .ok i) :
    ∃ r ∈ opcodeRows, r.mnemonic = i.mnemonic ∧ r.hits fw = true := by
  cases decodePair_eq_iff.mp h with
  | task ht => exact ⟨opcodeRows[0], by decide, rfl, (hits_task fw).mpr ht⟩
  | ack ht hs => exact ⟨opcodeRows[1], by decide, rfl, (hits_ack fw).mpr ⟨ht, hs⟩⟩
  | nack ht hs => exact ⟨opcodeRows[2], by decide, rfl, (hits_nack fw).mpr ⟨ht, hs⟩⟩
  | qty ht => exact ⟨opcodeRows[3], by decide, rfl, (hits_qty fw).mpr ht⟩
  | term ht hv => exact ⟨opcodeRows[4], by decide, rfl, (hits_term fw).mpr ⟨ht, hv⟩⟩
  | csum ht => exact ⟨opcodeRows[5], by decide, rfl, (hits_csum fw).mpr ht⟩
  | data ht => exact ⟨opcodeRows[6], by decide, rfl, (hits_data fw).mpr ht⟩

/-- A mnemonic names one row of the map. -/
theorem opcodeRow_unique :
    ∀ r ∈ opcodeRows, ∀ r' ∈ opcodeRows, r.mnemonic = r'.mnemonic → r = r' := by decide

/-! ## A frame of another kind -/

/-- A frame row of another kind than the awaited one is a failed step, named for the role that awaits (R85). -/
theorem exec_of_other_kind {s : State} {i : Instr} {k k' : Kind} (hi : frameKind i = some k')
    (hk : expected s.role s.phase s.ustep = some k) (hne : k' ≠ k) :
    exec i s = .next (failStep (wrongKindCause k) s) := by
  obtain ⟨v, hrow⟩ := frameRow_of_frameKind hi
  rw [hrow.exec_eq_judge]
  exact judge_fails _ s k _ hk (acceptFrame_frameOf_other k k' v s.t s.crc hne)

/-! ## The obligations about the encoding -/

/-- Settles O1: a frame row is decoded from the frame word of its frame, a command from its code. -/
theorem decodeOfEncodeIsTheInstruction : Obligations.DecodeOfEncodeIsTheInstruction := by
  intro i cw _ h
  obtain ⟨k, v, hrow⟩ | ⟨c, rfl⟩ := encode_cases h
  · rw [hrow.encode_eq] at h
    cases h
    exact (decodeFrame_word (kindToTag_lt k)).trans hrow.decodePair_eq
  · rw [encode_decodeCommand] at h
    cases h
    rfl

/-- Settles O2: what a frame word decodes to is the row of the value under a mask that spares the tag. -/
theorem encodeOfDecodeClearsUnusedBits : Obligations.EncodeOfDecodeClearsUnusedBits := by
  intro fw i h
  obtain ⟨k, m, hrow, htag, hbits⟩ := (decodePair_eq_iff.mp h).frameRow
  have hword : (frameOf k ((frameOfWord fw).value &&& m)).word = fw &&& definedBits i := by
    rw [hbits, frameOf, ← htag, ← word_and_mask, word_frameOfWord]
  rw [hrow.encode_eq, hword]

/-- Settles O3: each row hits what decodes to its instruction, and what decodes is hit by its own row. -/
theorem decoderFollowsTheOpcodeMap : Obligations.DecoderFollowsTheOpcodeMap := by
  refine ⟨fun fw r hr => ⟨decodeFrame_of_hits hr, ?_⟩, fun fw => ⟨fun hmiss => ?_, ?_⟩⟩
  · rintro ⟨i, hi, hm⟩
    obtain ⟨r', hr', hm', hhit⟩ := exists_hit_of_decodeFrame hi
    rwa [opcodeRow_unique r hr r' hr' (hm.symm.trans hm'.symm)]
  · cases hd : decodeFrame fw with
    | error e => exact ⟨e, rfl⟩
    | ok i =>
      obtain ⟨r, hr, -, hhit⟩ := exists_hit_of_decodeFrame hd
      simp [hmiss r hr] at hhit
  · rintro ⟨e, he⟩ r hr
    rw [Bool.eq_false_iff]
    intro hhit
    obtain ⟨i, hi, -⟩ := decodeFrame_of_hits hr hhit
    simp [he] at hi

/-- Settles O4: the two rejections among the decoder's answers, and the frame read back from its frame word. -/
theorem rejectedFrameWordsAreNamed : Obligations.RejectedFrameWordsAreNamed := by
  intro tag v
  refine ⟨⟨fun h => ?_, fun h => decodePair_eq_iff.mpr (.badTag h)⟩, ?_, fun h => decodeFrame_word h⟩
  · cases decodePair_eq_iff.mp h with
    | badTag ht => exact ht
  · rw [ne_eq, ← termField_eq_iff_mod]
    constructor
    · rintro ⟨x, h⟩
      cases decodePair_eq_iff.mp h with
      | badSentinel ht hv => exact ⟨ht, hv⟩
    · rintro ⟨ht, hv⟩
      exact ⟨_, decodePair_eq_iff.mpr (.badSentinel ht hv)⟩

/-- Settles O30: the failed step of each role, with the name its role gives the cause. -/
theorem frameOfAnotherKindFailsTheWait : Obligations.FrameOfAnotherKindFailsTheWait := by
  intro s i k k' hi hk hne
  rw [exec_of_other_kind hi hk hne]
  refine ⟨fun hr => ?_, fun hr hatt => ?_, fun hr hatt => ?_⟩
  · have hkind : k ≠ .ack := expected_receiver s.phase s.ustep k (hr ▸ hk)
    rw [failStep_receiver _ s hr, wrongKindCause, if_neg hkind]
  · obtain rfl : k = .ack := expected_sender s.phase s.ustep k (hr ▸ hk)
    exact congrArg _ (failStep_retry .ackWrongKind s hr (by decide) hatt)
  · obtain rfl : k = .ack := expected_sender s.phase s.ustep k (hr ▸ hk)
    exact congrArg _ (failStep_exhausted .ackWrongKind s hr (by decide) hatt.ge)

/-- Settles O5: the words evaluated. -/
theorem writtenOutWordsDecode : Obligations.WrittenOutWordsDecode := by
  unfold Obligations.WrittenOutWordsDecode
  decide

end Sys2Proof.Machine

/-! SUPPORT. The Frame Codec (spec/40_frame_codec.md): the tag, payload and position tables, the order of the checks of
`accept`, that unused bits have no part in a judgement, and the obligations about them. -/

namespace Sys2Proof.Machine

/-! ## Tags and kinds -/

/-- The demultiplexer answers the kind whose tag it is given (R81). -/
theorem tagToKind_eq_some_iff {w : Tag} {k : Kind} : tagToKind w = some k ↔ kindToTag k = w :=
  ⟨kindToTag_of_tagToKind w k, fun h => h ▸ tagToKind_kindToTag k⟩

/-- The demultiplexer answers Unknown for the tags of no kind (R81). -/
theorem tagToKind_eq_none_iff {w : Tag} : tagToKind w = none ↔ ∀ k, kindToTag k ≠ w := by
  simp only [Option.eq_none_iff_forall_ne_some, ne_eq, tagToKind_eq_some_iff]

/-- The tags of no kind are those outside the table of R80. -/
theorem forall_kindToTag_ne_iff {w : Tag} :
    (∀ k, kindToTag k ≠ w) ↔ w ≠ 12 ∧ w ≠ 13 ∧ w ≠ 14 ∧ w ≠ 15 ∧ w ≠ 16 ∧ w ≠ 32 := by
  constructor
  · intro h
    exact ⟨(h .task).symm, (h .ack).symm, (h .quantity).symm, (h .terminator).symm, (h .checksum).symm, (h .data).symm⟩
  · rintro ⟨h12, h13, h14, h15, h16, h32⟩ k
    cases k with
    | task => exact h12.symm
    | ack => exact h13.symm
    | quantity => exact h14.symm
    | terminator => exact h15.symm
    | checksum => exact h16.symm
    | data => exact h32.symm

/-! ## Payload fields as numbers -/

/-- A field that starts at bit 0 is a remainder. -/
theorem lowField_toNat (n : Nat) (v : Word) : (v.extractLsb' 0 n).toNat = v.toNat % 2 ^ n := by
  rw [BitVec.extractLsb'_toNat, Nat.shiftRight_zero]

/-- An acknowledgment value validates exactly when it is 0x1000 + the expected task (R102). -/
theorem validateAck_iff_toNat (a : AckValue) (e : Task) : validateAck a e = true ↔ a.toNat = 0x1000 + e.toNat := by
  have hstatus : decodeStatus a = decide (0x1000 ≤ a.toNat) := BitVec.msb_eq_decide a
  have hecho : a.extractLsb' 0 12 = e ↔ a.toNat % 0x1000 = e.toNat := by
    rw [← BitVec.toNat_inj, BitVec.extractLsb'_toNat, Nat.shiftRight_zero]
  rw [validateAck, Bool.and_eq_true, beq_iff_eq, hstatus, hecho, decide_eq_true_eq]
  have ha : a.toNat < 0x2000 := a.isLt
  have he : e.toNat < 0x1000 := e.isLt
  omega

theorem payloadValid_quantity (v : Word) (x : Task) (c : Crc) :
    payloadValid .quantity v x c = decide (v.toNat % 2 ^ 14 ≤ 64) := by
  rw [payloadValid, qtyLegal, qtyField, lowField_toNat, Config.maxQty]

theorem payloadValid_checksum (v : Word) (x : Task) (c : Crc) :
    payloadValid .checksum v x c = decide (v.toNat % 2 ^ 16 = c.toNat) := by
  rw [Bool.eq_iff_iff, payloadValid, beq_iff_eq, decide_eq_true_eq, ← BitVec.toNat_inj, csumField, lowField_toNat]

theorem payloadValid_terminator (v : Word) (x : Task) (c : Crc) :
    payloadValid .terminator v x c = decide (v.toNat % 2 ^ 15 = 0xE2D) := by
  rw [Bool.eq_iff_iff, payloadValid, beq_iff_eq, decide_eq_true_eq, termField_eq_iff_mod]

theorem payloadValid_ack (v : Word) (x : Task) (c : Crc) :
    payloadValid .ack v x c = decide (v.toNat % 2 ^ 13 = 0x1000 + x.toNat) := by
  rw [Bool.eq_iff_iff, payloadValid, decide_eq_true_eq, validateAck_iff_toNat, ackField, lowField_toNat]

/-! ## The positions that await a frame -/

/-- A Sender awaits an acknowledgment at U_RX of an active phase, and nothing elsewhere (R84). -/
theorem expected_sender_eq (p : Phase) (u : UStep) :
    expected .sender p u = if activePhase p = true ∧ u = .uRx then some .ack else none := by
  cases p <;> cases u <;> rfl

/-- The one place at which a Receiver awaits each kind: the rows of R84 read by their kind. -/
def receiverWait : Kind → Option (Phase × UStep)
  | .task => some (.pTask, .uRx)
  | .ack => none
  | .quantity => some (.pQty, .uRx)
  | .terminator => some (.pTerm, .uRx)
  | .checksum => some (.pData, .uRxc)
  | .data => some (.pData, .uRx)

/-- A Receiver awaits a kind at that kind's place alone (R84). -/
theorem expected_receiver_iff (p : Phase) (u : UStep) (k : Kind) :
    expected .receiver p u = some k ↔ receiverWait k = some (p, u) := by
  cases p <;> cases u <;> cases k <;> decide

/-- An acknowledgment is awaited by a Sender alone (R84). -/
theorem expected_ack_iff (r : Role) (p : Phase) (u : UStep) :
    expected r p u = some .ack ↔ r = .sender ∧ activePhase p = true ∧ u = .uRx := by
  cases r with
  | idle => simp [expected]
  | sender => simp [expected_sender_eq]
  | receiver => simp [expected_receiver_iff, receiverWait]

/-- Every other kind is awaited by a Receiver alone, at the kind's place (R84). -/
theorem expected_eq_some_iff {k : Kind} {place : Phase × UStep} (hk : receiverWait k = some place) (r : Role)
    (p : Phase) (u : UStep) : expected r p u = some k ↔ r = .receiver ∧ p = place.1 ∧ u = place.2 := by
  have hack : k ≠ .ack := by rintro rfl; cases hk
  cases r with
  | idle => simp [expected]
  | sender =>
    have hne : expected .sender p u ≠ some k := fun h => hack (expected_sender p u k h)
    simp [hne]
  | receiver => rw [expected_receiver_iff, hk, Option.some_inj, Prod.ext_iff]; simp [eq_comm]

/-! ## The order of the checks -/

/-- A frame with a tag of no kind is a violation (R85). -/
theorem acceptFrame_unrecognised {f : Frame} (k : Kind) (x : Task) (c : Crc) (h : tagToKind f.tag = none) :
    acceptFrame (some f) k x c = (false, some (violationCause k)) := by
  simp [acceptFrame, h]

/-- A frame whose tag is recognised is the frame of its kind (R80). -/
theorem eq_frameOf {f : Frame} {k : Kind} (h : tagToKind f.tag = some k) : f = frameOf k f.value := by
  rw [frameOf, kindToTag_of_tagToKind f.tag k h]

/-- A frame of another kind than the awaited one fails whatever its payload (R85). -/
theorem acceptFrame_other {f : Frame} {k k' : Kind} (x : Task) (c : Crc) (h : tagToKind f.tag = some k')
    (hne : k' ≠ k) : acceptFrame (some f) k x c = (false, some (wrongKindCause k)) := by
  rw [eq_frameOf h]
  exact acceptFrame_frameOf_other k k' f.value x c hne

/-- A frame of the awaited kind is judged by its payload (R85). -/
theorem acceptFrame_same {f : Frame} {k : Kind} {x : Task} {c : Crc} (h : tagToKind f.tag = some k) :
    acceptFrame (some f) k x c =
      if payloadValid k f.value x c then (true, none) else (false, some (payloadCause k)) := by
  rw [eq_frameOf h]
  exact acceptFrame_frameOf_same k f.value x c

/-- The accept operation shows the judgement (R85). -/
theorem exec_accept {r : Option Frame} {k : Kind} {x : Task} {c : Crc} {ok : Bool} {cause : Option Cause}
    (h : acceptFrame r k x c = (ok, cause)) (s : State) :
    exec (.accept r k x c) s = .next { s with out := .judgement ok cause } := by
  have hexec : exec (.accept r k x c) s =
      .next (s.showOut (.judgement (acceptFrame r k x c).1 (acceptFrame r k x c).2)) := rfl
  rw [hexec, h]
  rfl

/-! ## Unused bits -/

/-- The bits of a value that hold the payload of a frame of a kind (R62 to R67). -/
def payloadMask : Kind → Word
  | .task => 0xFFF
  | .ack => 0x1FFF
  | .quantity => 0x3FFF
  | .terminator => 0x7FFF
  | .checksum => 0xFFFF
  | .data => BitVec.allOnes 32

/-- The bits an instruction's row names are the tag and the payload of its kind. -/
theorem FrameRow.definedBits_eq {i : Instr} {k : Kind} {v : Word} (h : FrameRow i k v) :
    definedBits i = Frame.word ⟨payloadMask k, 63⟩ := by
  cases h <;> rfl

/-- A mask spares the fields inside it. -/
theorem lowField_mask {m n : Nat} (hmn : m ≤ n) (v : Word) :
    (v &&& BitVec.ofNat 32 (2 ^ n - 1)).extractLsb' 0 m = v.extractLsb' 0 m := by
  ext i hi
  suffices hbit : v.getLsbD i = true → (BitVec.ofNat 32 (2 ^ n - 1)).getLsbD i = true by simpa using hbit
  intro h
  have h32 : i < 32 := BitVec.lt_of_getLsbD h
  simp only [BitVec.getLsbD_ofNat, Nat.testBit_two_pow_sub_one, Bool.and_eq_true, decide_eq_true_eq]
  omega

/-- Unused bits have no part in a payload's check (R69). -/
theorem payloadValid_mask (k : Kind) (v : Word) (x : Task) (c : Crc) :
    payloadValid k (v &&& payloadMask k) x c = payloadValid k v x c := by
  cases k with
  | task | data => rfl
  | ack => exact congrArg (validateAck · x) (lowField_mask (n := 13) le_rfl v)
  | quantity => exact congrArg qtyLegal (lowField_mask (n := 14) le_rfl v)
  | terminator => exact congrArg (· == Config.termValue) (lowField_mask (n := 15) le_rfl v)
  | checksum => exact congrArg (· == c) (lowField_mask (n := 16) le_rfl v)

/-- Unused bits have no part in what a Receiver takes from a frame (R69). -/
theorem receiverAccepts_mask (k : Kind) (v : Word) (s : State) :
    receiverAccepts k (v &&& payloadMask k) s = receiverAccepts k v s := by
  cases k with
  | ack | checksum | terminator => rfl
  | task =>
    have hfield : taskField (v &&& payloadMask .task) = taskField v := lowField_mask (n := 12) le_rfl v
    rw [receiverAccepts, receiverAccepts, hfield]
  | quantity =>
    have hfield : qtyLow (v &&& payloadMask .quantity) = qtyLow v := lowField_mask (n := 14) (by decide) v
    rw [receiverAccepts, receiverAccepts, hfield]
  | data => rw [payloadMask, BitVec.and_allOnes]

/-- A frame of the awaited kind: its payload is checked, then the Sender advances or the Receiver takes it (R85). -/
theorem judge_frameOf_same {s : State} {k : Kind} (v : Word) (hk : expected s.role s.phase s.ustep = some k) :
    judge (some (frameOf k v)) s =
      if payloadValid k v s.t s.crc then
        if s.role = .sender then .next (advanceSender s) else receiverAccepts k v s
      else .next (failStep (payloadCause k) s) := by
  simp only [judge, hk, acceptFrame_frameOf_same]
  cases payloadValid k v s.t s.crc <;> rfl

/-- A frame of another kind than the awaited one fails the wait whatever its payload (R85). -/
theorem judge_frameOf_other {s : State} {k k' : Kind} (v : Word) (hk : expected s.role s.phase s.ustep = some k)
    (hne : k' ≠ k) : judge (some (frameOf k' v)) s = .next (failStep (wrongKindCause k) s) :=
  judge_fails _ s k _ hk (acceptFrame_frameOf_other k k' v s.t s.crc hne)

/-- Unused bits have no part in the judgement of a frame (R69). -/
theorem judge_mask (k : Kind) (v : Word) (s : State) :
    judge (some (frameOf k (v &&& payloadMask k))) s = judge (some (frameOf k v)) s := by
  rcases hk : expected s.role s.phase s.ustep with _ | k'
  · rw [judge_unawaited _ s hk, judge_unawaited _ s hk]
  · by_cases hne : k = k'
    · subst hne
      rw [judge_frameOf_same _ hk, judge_frameOf_same _ hk, payloadValid_mask, receiverAccepts_mask]
    · rw [judge_frameOf_other _ hk hne, judge_frameOf_other _ hk hne]

/-- Running what a frame decodes to is judging the frame with all its bits: the row's frame is the received one with its
unused bits cleared. -/
theorem exec_decoded_eq_judge {f : Frame} {i : Instr} (h : decodePair f = .ok i) (s : State) :
    exec i s = judge (some f) s := by
  obtain ⟨k, m, hrow, htag, hbits⟩ := (decodePair_eq_iff.mp h).frameRow
  have hmask : m = payloadMask k :=
    congrArg Frame.value ((word_inj (Nat.lt_succ_self 63) (Nat.lt_succ_self 63)).mp (hbits.symm.trans hrow.definedBits_eq))
  have hf : f = frameOf k f.value := by rw [frameOf, ← htag]
  calc exec i s = judge (some (frameOf k (f.value &&& m))) s := hrow.exec_eq_judge s
    _ = judge (some (frameOf k f.value)) s := by rw [hmask, judge_mask]
    _ = judge (some f) s := by rw [← hf]

/-! ## The obligations about the Frame Codec -/

/-- Settles O7: silence and a rejected frame are judged as they are, a decoded one through its row. -/
theorem waitingStepIsRecvThenJudgement : Obligations.WaitingStepIsRecvThenJudgement := by
  intro s s' s'' r h hw hrecv
  rw [step_quiet h, engineStep_awaits s' hw]
  cases r with
  | none => exact awaitStep_none s' s'' hrecv
  | some f =>
    cases hd : decodePair f with
    | error e => exact awaitStep_undecoded s' s'' f e hrecv hd
    | ok i => exact (awaitStep_decoded s' s'' f i hrecv hd).trans (exec_decoded_eq_judge hd s'')

/-- Settles O13: the six tags are distinct, so the demultiplexer inverts their table. -/
theorem tagAndKindTables : Obligations.TagAndKindTables := by
  refine fun s => ⟨⟨rfl, rfl, rfl, rfl, rfl, rfl⟩, fun w => ⟨tagToKind w, rfl, fun k => tagToKind_eq_some_iff, ?_⟩⟩
  exact tagToKind_eq_none_iff.trans forall_kindToTag_ne_iff

/-- Settles O14: each kind's field as the remainder of the value. -/
theorem payloadValidTable : Obligations.PayloadValidTable := by
  intro s v x c
  have hexec (k : Kind) :
      exec (.payloadValid k v x c) s = .next { s with out := .truth (payloadValid k v x c) } := rfl
  refine ⟨hexec .task, ?_, hexec .data, ?_, ?_, ?_⟩
  · rw [hexec, payloadValid_quantity]
  · rw [hexec, payloadValid_checksum]
  · rw [hexec, payloadValid_terminator]
  · rw [hexec, payloadValid_ack]

/-- Settles O15: the Sender's rows of the table, and the Receiver's by the kind each of them awaits. -/
theorem expectedTable : Obligations.ExpectedTable := fun _ r p u =>
  ⟨expected r p u, rfl, expected_ack_iff r p u, expected_eq_some_iff (k := .task) rfl r p u,
    expected_eq_some_iff (k := .quantity) rfl r p u, expected_eq_some_iff (k := .data) rfl r p u,
    expected_eq_some_iff (k := .checksum) rfl r p u, expected_eq_some_iff (k := .terminator) rfl r p u⟩

/-- Settles O16: the checks of `accept` in their order, the payload last. -/
theorem acceptChecksInOrder : Obligations.AcceptChecksInOrder := by
  refine fun s k x c => ⟨exec_accept rfl s, fun f => ⟨fun hu => ?_, fun k' hk hne => ?_, fun hk hv => ?_,
    fun hk hv => ?_⟩⟩
  · exact exec_accept (acceptFrame_unrecognised k x c hu) s
  · exact exec_accept (acceptFrame_other x c hk hne) s
  · exact exec_accept (by rw [acceptFrame_same hk, hv]; rfl) s
  · have hinvalid : acceptFrame (some f) k x c = (false, some (payloadCause k)) := by
      rw [acceptFrame_same hk, hv]; rfl
    refine ⟨?_, ?_, ?_, ?_⟩ <;> rintro rfl <;> exact exec_accept hinvalid s

end Sys2Proof.Machine

/-! SUPPORT. The Checksum Engine (spec/41_checksum.md): the shift steps and the running update are linear over bitwise
exclusive-or for every CRC_PARAMS, the byte-wise update is eight steps of the bit-serial register for the default ones,
and the obligations about them. -/

namespace Sys2Proof.Machine

/-! ## The shift steps -/

/-- A shift step as an exclusive-or with the polynomial or with nothing (R92). -/
theorem crcShift_eq_xor (poly c : Crc) : crcShift poly c = (c <<< 1) ^^^ (if c.getLsbD 15 then poly else 0) := by
  unfold crcShift
  split
  · rfl
  · exact BitVec.xor_zero.symm

/-- Adding the polynomial for the exclusive-or of two bits is adding it for each of them. -/
theorem ite_bne_eq_xor (poly : Crc) (x y : Bool) :
    (if x != y then poly else 0) = (if x then poly else 0) ^^^ (if y then poly else 0) := by
  cases x <;> cases y <;> simp

theorem crcShift_xor (poly c d : Crc) : crcShift poly (c ^^^ d) = crcShift poly c ^^^ crcShift poly d := by
  simp only [crcShift_eq_xor, BitVec.getLsbD_xor, BitVec.shiftLeft_xor_distrib, Bool.xor, ite_bne_eq_xor]
  ac_rfl

theorem crcShifts_xor (poly : Crc) (n : Nat) (c d : Crc) :
    crcShifts poly n (c ^^^ d) = crcShifts poly n c ^^^ crcShifts poly n d := by
  induction n generalizing c d with
  | zero => rfl
  | succ n ih => rw [crcShifts, crcShift_xor, ih]; rfl

theorem crcShifts_zero (poly : Crc) (n : Nat) : crcShifts poly n 0#16 = 0#16 := by
  induction n with
  | zero => rfl
  | succ n ih => exact ih

theorem crcShifts_eq_iterate (poly : Crc) (n : Nat) (c : Crc) : crcShifts poly n c = (crcShift poly)^[n] c := by
  induction n generalizing c with
  | zero => rfl
  | succ n ih => exact ih (crcShift poly c)

/-- The test of bit 15 is a comparison with 2^15. -/
theorem crcShift_eq_ite_le (poly c : Crc) :
    crcShift poly c = if 2 ^ 15 ≤ c.toNat then (c <<< 1) ^^^ poly else c <<< 1 := by
  have hbit : c.getLsbD 15 = decide (2 ^ 15 ≤ c.toNat) := BitVec.getLsbD_last c
  simp only [crcShift, hbit, decide_eq_true_eq]

/-- A polynomial with the term 1 shows in bit 0 that it was added, so a shift step loses nothing. -/
theorem crcShift_injective {poly : Crc} (hpoly : poly.getLsbD 0 = true) : Function.Injective (crcShift poly) := by
  have hkernel (c : Crc) (h : crcShift poly c = 0#16) : c = 0#16 := by
    rw [crcShift_eq_xor] at h
    have htop : c.getLsbD 15 = false := by
      have hbit : (c <<< 1 ^^^ if c.getLsbD 15 then poly else 0).getLsbD 0 = false := by rw [h]; rfl
      cases hc : c.getLsbD 15 with
      | false => rfl
      | true => rw [hc, if_pos rfl, BitVec.getLsbD_xor, hpoly] at hbit; simp at hbit
    have hshift : c <<< 1 = 0#16 := by rwa [htop, if_neg Bool.false_ne_true, BitVec.xor_eq_zero_iff] at h
    have hlow : ¬2 ^ 15 ≤ c.toNat := by rwa [BitVec.getLsbD_last (w := 16) c, decide_eq_false_iff_not] at htop
    bv_omega
  intro c d h
  exact BitVec.xor_eq_zero_iff.mp (hkernel _ (by rw [crcShift_xor, h, BitVec.xor_self]))

/-! ## The running update and the finish -/

theorem reverse_xor {n : Nat} (x y : BitVec n) : (x ^^^ y).reverse = x.reverse ^^^ y.reverse := by
  ext i hi
  rw [BitVec.getElem_xor, BitVec.getElem_reverse, BitVec.getElem_reverse, BitVec.getElem_reverse, BitVec.getMsbD_xor]

theorem crcByteIn_xor (p : CrcParams) (a b : Byte) : crcByteIn p (a ^^^ b) = crcByteIn p a ^^^ crcByteIn p b := by
  unfold crcByteIn
  split
  · exact reverse_xor a b
  · rfl

/-- The running update is linear in the running value and the byte together. -/
theorem crcUpdate_xor (p : CrcParams) (c d : Crc) (a b : Byte) :
    crcUpdate p (c ^^^ d) (a ^^^ b) = crcUpdate p c a ^^^ crcUpdate p d b := by
  simp only [crcUpdate, crcByteIn_xor, BitVec.setWidth_xor, BitVec.shiftLeft_xor_distrib, crcShifts_xor]
  ac_rfl

/-- The running value after the four bytes of a word, most significant first (R91), from a given one. -/
def crcWord (p : CrcParams) (c : Crc) (w : Word) : Crc :=
  crcUpdate p (crcUpdate p (crcUpdate p (crcUpdate p c (wordByte w 0)) (wordByte w 1)) (wordByte w 2)) (wordByte w 3)

theorem checksum_eq_crcFinish (p : CrcParams) (w : Word) : checksum p w = crcFinish p (crcWord p p.init w) := rfl

theorem crcWord_xor (p : CrcParams) (c d : Crc) (v w : Word) :
    crcWord p (c ^^^ d) (v ^^^ w) = crcWord p c v ^^^ crcWord p d w := by
  simp only [crcWord, wordByte, BitVec.extractLsb'_xor, crcUpdate_xor]

/-- The finish is affine: three final exclusive-ors leave one. -/
theorem crcFinish_xor (p : CrcParams) (a b c : Crc) :
    crcFinish p (a ^^^ b ^^^ c) = crcFinish p a ^^^ crcFinish p b ^^^ crcFinish p c := by
  have hxorout (x y z : Crc) :
      x ^^^ y ^^^ z ^^^ p.xorout = (x ^^^ p.xorout) ^^^ (y ^^^ p.xorout) ^^^ (z ^^^ p.xorout) := by
    calc x ^^^ y ^^^ z ^^^ p.xorout = x ^^^ y ^^^ z ^^^ (p.xorout ^^^ p.xorout ^^^ p.xorout) := by
          rw [BitVec.xor_self, BitVec.zero_xor]
      _ = (x ^^^ p.xorout) ^^^ (y ^^^ p.xorout) ^^^ (z ^^^ p.xorout) := by ac_rfl
  unfold crcFinish
  split
  · rw [reverse_xor, reverse_xor, hxorout]
  · exact hxorout a b c

/-- Affinity of the checksum (R95 (a)). -/
theorem checksum_xor (p : CrcParams) (a b : Word) :
    checksum p (a ^^^ b) = checksum p a ^^^ checksum p b ^^^ checksum p 0 := by
  have hinit : p.init = p.init ^^^ p.init ^^^ p.init := by rw [BitVec.xor_self, BitVec.zero_xor]
  have hword : a ^^^ b = a ^^^ b ^^^ 0 := BitVec.xor_zero.symm
  calc checksum p (a ^^^ b) = crcFinish p (crcWord p (p.init ^^^ p.init ^^^ p.init) (a ^^^ b ^^^ 0)) := by
        rw [← hinit, ← hword, checksum_eq_crcFinish]
    _ = checksum p a ^^^ checksum p b ^^^ checksum p 0 := by
        rw [crcWord_xor, crcWord_xor, crcFinish_xor]; rfl

/-- When two words have one checksum (R95 (b)). -/
theorem checksum_eq_iff (p : CrcParams) (a b : Word) :
    checksum p a = checksum p b ↔ checksum p (a ^^^ b) = checksum p 0 := by
  rw [checksum_xor, ← BitVec.xor_eq_zero_iff (y := checksum p b), ← BitVec.xor_left_inj (checksum p 0),
    BitVec.zero_xor]

/-! ## The bit-serial register -/

/-- The bit that is shifted in adds the polynomial once more (R94). -/
theorem crcBitStep_eq (c : Crc) (b : Bool) :
    crcBitStep c b = crcShift 0x1021#16 c ^^^ (if b then 0x1021#16 else 0) := by
  have hstep : crcBitStep c b = (c <<< 1) ^^^ (if c.getLsbD 15 != b then 0x1021#16 else 0) := by
    unfold crcBitStep
    split
    · rfl
    · exact BitVec.xor_zero.symm
  rw [hstep, ite_bne_eq_xor, crcShift_eq_xor, BitVec.xor_assoc]

theorem crcBitStep_xor (c d : Crc) (x y : Bool) :
    crcBitStep (c ^^^ d) (x ^^ y) = crcBitStep c x ^^^ crcBitStep d y := by
  simp only [crcBitStep_eq, crcShift_xor, Bool.xor, ite_bne_eq_xor]
  ac_rfl

theorem crcSerial_xor (v w : Word) (n : Nat) (c d : Crc) :
    crcSerial (v ^^^ w) n (c ^^^ d) = crcSerial v n c ^^^ crcSerial w n d := by
  induction n generalizing c d with
  | zero => rfl
  | succ n ih => rw [crcSerial, BitVec.getLsbD_xor, crcBitStep_xor, ih]; rfl

/-- The register takes the upper bits first. -/
theorem crcSerial_add (w : Word) (m n : Nat) (c : Crc) :
    crcSerial w (m + n) c = crcSerial w m (crcSerial (w >>> m) n c) := by
  induction n generalizing c with
  | zero => rfl
  | succ n ih =>
    rw [← Nat.add_assoc, crcSerial, ih, crcSerial, BitVec.getLsbD_ushiftRight]

/-- Over zero bits the register only shifts. -/
theorem crcSerial_of_zeros {w : Word} {n : Nat} (h : ∀ k < n, w.getLsbD k = false) (c : Crc) :
    crcSerial w n c = crcShifts 0x1021#16 n c := by
  induction n generalizing c with
  | zero => rfl
  | succ n ih =>
    have hstep : crcBitStep c false = crcShift 0x1021#16 c := (crcBitStep_eq c false).trans BitVec.xor_zero
    rw [crcSerial, h n n.lt_succ_self, hstep, ih fun k hk => h k (Nat.lt_succ_of_lt hk), crcShifts]

/-- Bits shifted in one by one are the same bits added at the top of the register before the shifts. -/
theorem crcSerial_eq_crcShifts {n : Nat} (hn : n ≤ 16) (w : Word) (c : Crc) :
    crcSerial w n c = crcShifts 0x1021#16 n (c ^^^ (w.setWidth 16 <<< (16 - n))) := by
  induction n generalizing c with
  | zero =>
    have hout : w.setWidth 16 <<< 16 = 0#16 := by ext i hi; simp
    rw [Nat.sub_zero, hout, BitVec.xor_zero]; rfl
  | succ n ih =>
    have htop : (w.setWidth 16 <<< (15 - n) : Crc).getLsbD 15 = w.getLsbD n := by
      have hsub : 15 - (15 - n) = n := by omega
      have hlt : n < 16 := by omega
      rw [BitVec.getLsbD_shiftLeft, BitVec.getLsbD_setWidth, hsub]
      simp [hlt]
    have hnext : (w.setWidth 16 <<< (15 - n) : Crc) <<< 1 = w.setWidth 16 <<< (16 - n) := by
      rw [← BitVec.shiftLeft_add]; congr 1; omega
    have hstep : crcBitStep c (w.getLsbD n) ^^^ (w.setWidth 16 <<< (16 - n)) =
        crcShift 0x1021#16 (c ^^^ (w.setWidth 16 <<< (15 - n))) := by
      rw [crcShift_xor, crcShift_eq_xor _ (_ <<< _), htop, hnext, crcBitStep_eq]
      ac_rfl
    rw [crcSerial, ih (by omega), hstep, crcShifts, Nat.add_comm n 1, Nat.sub_add_eq]

/-- One byte of the default running update is eight steps of the register. -/
theorem crcUpdate_default (w : Word) (n : Nat) (c : Crc) :
    crcUpdate Config.crcDefault c (wordByte w n) = crcSerial (w >>> (8 * (3 - n))) 8 c := by
  have hbyte : ((wordByte w n).setWidth 16 <<< 8 : Crc) = (w >>> (8 * (3 - n))).setWidth 16 <<< 8 := by
    ext i hi
    have hlow : i - 8 < 8 := by omega
    simp [wordByte, hlow]
  rw [crcSerial_eq_crcShifts (by decide), ← hbyte]
  rfl

theorem checksum_default (w : Word) : checksum Config.crcDefault w = crcSerial w 32 0xFFFF#16 := by
  have hword (c : Crc) : crcWord Config.crcDefault c w = crcSerial w 32 c := by
    rw [crcSerial_add w 24 8, crcSerial_add w 16 8, crcSerial_add w 8 8]
    simp only [crcWord, crcUpdate_default, Nat.reduceSub, Nat.reduceMul, BitVec.ushiftRight_zero]
  rw [← hword, checksum_eq_crcFinish]
  exact BitVec.xor_zero

/-! ## Flipped bits -/

/-- Flipping bits adds to the default checksum what the register makes of them from 0. -/
theorem checksum_default_xor (w e : Word) :
    checksum Config.crcDefault (w ^^^ e) = checksum Config.crcDefault w ^^^ crcSerial e 32 0#16 := by
  rw [checksum_default, checksum_default, ← crcSerial_xor, BitVec.xor_zero]

/-- One bit enters as the polynomial, and the bits below it only shift it. -/
theorem crcSerial_twoPow {i : Nat} (hi : i < 32) :
    crcSerial (BitVec.twoPow 32 i) 32 0#16 = crcShifts 0x1021#16 i 0x1021#16 := by
  have habove : crcSerial (BitVec.twoPow 32 i >>> (i + 1)) (31 - i) 0#16 = 0#16 := by
    rw [crcSerial_of_zeros (fun k _ => by simp; omega), crcShifts_zero]
  have hbit : (BitVec.twoPow 32 i).getLsbD i = true := by simp [hi]
  have hbelow (k : Nat) (hk : k < i) : (BitVec.twoPow 32 i).getLsbD k = false := by simp; omega
  calc crcSerial (BitVec.twoPow 32 i) 32 0#16 = crcSerial (BitVec.twoPow 32 i) (i + 1 + (31 - i)) 0#16 := by
        congr 1; omega
    _ = crcSerial (BitVec.twoPow 32 i) i (crcBitStep 0#16 true) := by rw [crcSerial_add, habove, crcSerial, hbit]
    _ = crcShifts 0x1021#16 i 0x1021#16 := crcSerial_of_zeros hbelow _

theorem crcShifts_default_injective (n : Nat) : Function.Injective (crcShifts 0x1021#16 n) := by
  rw [funext (crcShifts_eq_iterate 0x1021#16 n)]
  exact (crcShift_injective (by decide)).iterate n

/-- Fewer than 32 shifts never bring the polynomial back: x has a higher order modulo the generator. -/
theorem crcShifts_poly_ne : ∀ n < 32, 0 < n → crcShifts 0x1021#16 n 0x1021#16 ≠ 0x1021#16 := by decide

/-- Two different single bits leave different values in the register. -/
theorem crcSerial_twoPow_ne {i j : Nat} (hj : j < 32) (hij : i < j) :
    crcSerial (BitVec.twoPow 32 i) 32 0#16 ≠ crcSerial (BitVec.twoPow 32 j) 32 0#16 := by
  have hsplit : crcShifts 0x1021#16 j 0x1021#16 = crcShifts 0x1021#16 i (crcShifts 0x1021#16 (j - i) 0x1021#16) := by
    simp only [crcShifts_eq_iterate, ← Function.iterate_add_apply, Nat.add_sub_of_le hij.le]
  rw [crcSerial_twoPow (hij.trans hj), crcSerial_twoPow hj, hsplit, (crcShifts_default_injective i).ne_iff]
  exact (crcShifts_poly_ne (j - i) (by omega) (by omega)).symm

/-! ## A corrupted word -/

/-- A Receiver that awaits a word takes it with its checksum (R158). -/
theorem exec_data_taken {s : State} (hr : s.role = .receiver) (hp : s.phase = .pData) (hu : s.ustep = .uRx)
    (w : Word) : exec (.data w) s = .next { s with dw := w, crc := checksum s.params.crc w, ustep := .uRxc } := by
  have hk : expected s.role s.phase s.ustep = some .data := by rw [hr, hp, hu]; rfl
  exact judge_takes (dataFrame w) s .data none hr hk (acceptFrame_frameOf_same .data w s.t s.crc)

/-- A Receiver that awaits the checksum of DW stores DW when the checksum is CRC (R160). -/
theorem exec_csum_stored {s : State} (hr : s.role = .receiver) (hp : s.phase = .pData) (hu : s.ustep = .uRxc)
    (hi : s.idx.toNat < 64) :
    exec (.csum s.crc) s =
      .next (({ s with ackok := true, ustep := .uTxa } : State).setMsgWord s.idx.toNat s.dw) := by
  have hk : expected s.role s.phase s.ustep = some .checksum := by rw [hr, hp, hu]; rfl
  have hok : acceptFrame (some (csumFrame s.crc)) .checksum s.t s.crc = (true, none) := by
    rw [csumFrame, acceptFrame_frameOf_same, if_pos (by simp [payloadValid])]
  exact (judge_takes (csumFrame s.crc) s .checksum none hr hk hok).trans (if_pos hi)

/-! ## The obligations about the Checksum Engine -/

/-- Settles O17: each byte is eight steps of the register. -/
theorem checksumIsTheBitSerialRegister : Obligations.ChecksumIsTheBitSerialRegister := checksum_default

/-- Settles O18: the affine law, and for flipped bits the register's linearity and that its shifts are injective. -/
theorem checksumIsAffineAndSeesTwoBitErrors : Obligations.ChecksumIsAffineAndSeesTwoBitErrors := by
  refine ⟨checksum_xor, checksum_eq_iff, fun w i hi h => ?_, fun w i j hi hj hij h => ?_⟩
  · have hzero : crcSerial (BitVec.twoPow 32 i) 32 0#16 = 0#16 := by simpa [checksum_default_xor] using h
    rw [crcSerial_twoPow hi, ← crcShifts_zero 0x1021#16 i] at hzero
    exact absurd (crcShifts_default_injective i hzero) (by decide)
  · have hsame : crcSerial (BitVec.twoPow 32 i) 32 0#16 = crcSerial (BitVec.twoPow 32 j) 32 0#16 := by
      rw [← BitVec.xor_eq_zero_iff]
      simpa [checksum_default_xor, BitVec.xor_assoc, ← crcSerial_xor] using h
    obtain hlt | hgt := Nat.lt_or_gt_of_ne hij
    · exact crcSerial_twoPow_ne hj hlt hsame
    · exact crcSerial_twoPow_ne hi hgt hsame.symm

/-- Settles O19: the collisions by evaluation, the corrupted word through the Receiver's two waits. -/
theorem undetectedCorruptionIsStored : Obligations.UndetectedCorruptionIsStored := by
  have hcollision : checksum Config.crcDefault 0x12354659 = 0x30EC := by decide +kernel
  refine ⟨by decide +kernel, hcollision, by decide +kernel, by decide +kernel, fun s hr hp hu hi hparams => ?_⟩
  have hdata := exec_data_taken hr hp hu 0x12354659
  rw [hparams, hcollision] at hdata
  exact ⟨_, _, hdata, exec_csum_stored hr hp rfl hi, msgWord_setMsgWord_same _ _ _, rfl⟩

/-- Settles O20: the shift steps as an iteration, the bytes and the finish as they are defined. -/
theorem checksumOperationsComplete : Obligations.ChecksumOperationsComplete := by
  intro s w c b
  refine ⟨⟨_, rfl, ?_⟩, _, _, rfl, rfl, rfl⟩
  rw [crcUpdate, crcShifts_eq_iterate, funext (crcShift_eq_ite_le s.params.crc.poly)]
  rfl

end Sys2Proof.Machine

/-! SUPPORT. The acknowledgment helpers (spec/42_ack_helpers.md): an acknowledgment value as its status and its echo and
as a number, and the obligations about them. -/

namespace Sys2Proof.Machine

/-! ## An acknowledgment value and its parts -/

/-- The echo and the status of an acknowledgment value encode to it (R103). -/
theorem encodeAck_echo_decodeStatus (a : AckValue) : encodeAck (a.extractLsb' 0 12) (decodeStatus a) = a := by
  have hfield : ackField (a.setWidth 32) = a :=
    (BitVec.extractLsb'_setWidth_of_le (by decide)).trans BitVec.extractLsb'_eq_self
  have hecho : taskField (a.setWidth 32) = a.extractLsb' 0 12 := BitVec.extractLsb'_setWidth_of_le (by decide)
  have hstatus : (a.setWidth 32).getLsbD 12 = decodeStatus a := BitVec.getLsbD_setWidth ..
  rw [← hecho, ← hstatus, encodeAck_taskField, hfield]

/-- Two encoded acknowledgments are the same only for the same task and status (R103). -/
theorem encodeAck_inj {t t' : Task} {b b' : Bool} (h : encodeAck t b = encodeAck t' b') : t = t' ∧ b = b' := by
  constructor
  · rw [← echo_encodeAck t b, h, echo_encodeAck]
  · rw [← decodeStatus_encodeAck t b, h, decodeStatus_encodeAck]

/-- A value whose status is clear validates for no task (R103). -/
theorem validateAck_of_status_clear {a : AckValue} (h : decodeStatus a = false) (e : Task) :
    validateAck a e = false := by
  rw [validateAck, h, Bool.false_and]

/-! ## An acknowledgment value as a number -/

/-- The status is bit 12, the top bit of an acknowledgment value (R101). -/
theorem decodeStatus_eq_decide (a : AckValue) : decodeStatus a = decide (0x1000 ≤ a.toNat) :=
  BitVec.msb_eq_decide a

/-- The positive acknowledgment of a task is 0x1000 + the task, the negative one the task alone (R100). -/
theorem encodeAck_toNat (t : Task) (b : Bool) : (encodeAck t b).toNat = (if b then 0x1000 else 0) + t.toNat := by
  cases b with
  | true => exact (validateAck_iff_toNat _ t).mp (by simp)
  | false => rw [encodeAck_eq_append, BitVec.toNat_append]; simp

/-! ## The obligations about the acknowledgment helpers -/

/-- Settles O21: what an encoded acknowledgment validates as, the laws of a clear status, and the two inverses. -/
theorem acknowledgmentLaws : Obligations.AcknowledgmentLaws := by
  refine ⟨fun t => ?_, fun t t' hne => ?_, fun t t' => ?_, fun a e h => validateAck_of_status_clear h e,
    fun t t' b b' h => encodeAck_inj h, encodeAck_echo_decodeStatus⟩
  · rw [validateAck_encodeAck, beq_self_eq_true, Bool.and_self]
  · rw [validateAck_encodeAck, beq_false_of_ne hne.symm, Bool.and_false]
  · exact validateAck_of_status_clear (decodeStatus_encodeAck t false) t'

/-- Settles O22: each operation is its value on `out`, and the values as numbers. -/
theorem acknowledgmentOperationsComplete : Obligations.AcknowledgmentOperationsComplete := by
  intro s t b a
  have hvalid : validateAck a t = decide (a.toNat = 0x1000 + t.toNat) := by
    rw [Bool.eq_iff_iff, validateAck_iff_toNat, decide_eq_true_eq]
  rw [← decodeStatus_eq_decide, ← hvalid]
  exact ⟨⟨encodeAck t b, rfl, encodeAck_toNat t b⟩, rfl, rfl⟩

end Sys2Proof.Machine

/-! SUPPORT. The end of every exchange (spec/43_transport_primitives.md R120): how many micro-steps an engine can still
take before its completion, that each of them lowers that number, and the obligation. -/

namespace Sys2Proof.Machine

/-! ## The micro-steps still to come -/

/-- The micro-steps of one attempt at a phase: the unit of P_DATA is two frames and a wait, every other attempt one
frame and a wait, in either role. -/
def attemptLength (p : Phase) : Nat := if p = .pData then 3 else 2

/-- The micro-steps left of the attempt in progress. -/
def attemptLeft (r : Role) (p : Phase) : UStep → Nat
  | .uTx => attemptLength p
  | .uTxc => 2
  | .uRx => if r = .sender then 1 else attemptLength p
  | .uRxc => 2
  | .uTxa => 1

/-- The attempts a Sender has left after the one in progress, or, at U_TX, after the one it starts next (R19, R128). -/
def State.retriesLeft (s : State) : Nat :=
  if s.role = .sender then (if s.ustep = .uTx then 4 else 5) - s.att.toNat else 0

/-- A bound on the micro-steps after a phase that succeeds, the completion included: five attempts of each word and
each phase to come. A Receiver does not know the quantity before P_DATA, so there it is taken as 64. -/
def afterPhase (p : Phase) (i q : Count) : Nat :=
  match p with
  | .pTask => 15 * 64 + 21
  | .pQty => 15 * 64 + 11
  | .pData => 15 * (q.toNat - (i.toNat + 1)) + 11
  | .pTerm => 1
  | .pDone => 0
  | .pFail => 0

/-- A bound on the micro-steps from the start of a phase: its five attempts and what comes after it. An ended exchange
has its completion left. -/
def phaseBudget (p : Phase) (i q : Count) : Nat :=
  if activePhase p = true then 5 * attemptLength p + afterPhase p i q else 1

/-- A bound on the micro-steps of the engine before it is idle. -/
def State.stepsLeft (s : State) : Nat :=
  if s.role = .idle then 0
  else if activePhase s.phase = true then
    attemptLength s.phase * s.retriesLeft + attemptLeft s.role s.phase s.ustep + afterPhase s.phase s.idx s.q
  else 1

theorem stepsLeft_idle {s : State} (hr : s.role = .idle) : s.stepsLeft = 0 := if_pos hr

theorem stepsLeft_active {s : State} (hr : s.role ≠ .idle) (ha : activePhase s.phase = true) :
    s.stepsLeft =
      attemptLength s.phase * s.retriesLeft + attemptLeft s.role s.phase s.ustep + afterPhase s.phase s.idx s.q := by
  rw [State.stepsLeft, if_neg hr, if_pos ha]

theorem stepsLeft_ended {s : State} (hr : s.role ≠ .idle) (ha : activePhase s.phase = false) : s.stepsLeft = 1 := by
  simp [State.stepsLeft, hr, ha]

theorem attemptLength_pos (p : Phase) : 0 < attemptLength p := by
  unfold attemptLength; split <;> decide

theorem attemptLeft_pos (r : Role) (p : Phase) (u : UStep) : 0 < attemptLeft r p u := by
  cases u with
  | uTx => exact attemptLength_pos p
  | uTxc => exact Nat.zero_lt_two
  | uRx =>
    simp only [attemptLeft]
    split
    · exact Nat.one_pos
    · exact attemptLength_pos p
  | uRxc => exact Nat.zero_lt_two
  | uTxa => exact Nat.one_pos

theorem attemptLeft_wait_receiver (p : Phase) : attemptLeft .receiver p .uRx = attemptLength p := rfl

theorem afterPhase_pos {p : Phase} (i q : Count) (ha : activePhase p = true) : 0 < afterPhase p i q := by
  cases p with
  | pTask => exact Nat.succ_pos _
  | pQty => exact Nat.succ_pos _
  | pData => exact Nat.succ_pos _
  | pTerm => exact Nat.one_pos
  | pDone => cases ha
  | pFail => cases ha

/-- Before P_DATA the bound does not depend on the quantity, which the Receiver learns in P_QTY. -/
theorem afterPhase_quantity {p : Phase} (i q q' : Count) (hp : p ≠ .pData) : afterPhase p i q = afterPhase p i q' := by
  cases p with
  | pData => exact (hp rfl).elim
  | _ => rfl

/-- An active phase has more ahead of it than the completion of a failed exchange. -/
theorem one_lt_stepsLeft {s : State} (hr : s.role ≠ .idle) (ha : activePhase s.phase = true) : 1 < s.stepsLeft := by
  have hleft := attemptLeft_pos s.role s.phase s.ustep
  have hafter := afterPhase_pos s.idx s.q ha
  rw [stepsLeft_active hr ha]
  omega

/-! ## Phase by phase -/

/-- The successor of a phase has its budget in what comes after that phase (R36). -/
theorem phaseBudget_nextPhase {p : Phase} {i q : Count} (ha : activePhase p = true) (hq : q.toNat ≤ 64) :
    phaseBudget (nextPhase p i q).1 (nextPhase p i q).2 q ≤ afterPhase p i q := by
  cases p with
  | pTask => exact Nat.le_refl _
  | pQty =>
    simp only [nextPhase]
    split
    · show 5 * 3 + (15 * (q.toNat - (0 + 1)) + 11) ≤ 15 * 64 + 11
      omega
    · show 5 * 2 + 1 ≤ 15 * 64 + 11
      decide
  | pData =>
    simp only [nextPhase]
    split
    · next hi =>
      have hsucc : (i + 1).toNat = i.toNat + 1 := by bv_omega
      show 5 * 3 + (15 * (q.toNat - ((i + 1).toNat + 1)) + 11) ≤ 15 * (q.toNat - (i.toNat + 1)) + 11
      omega
    · show 5 * 2 + 1 ≤ 15 * (q.toNat - (i.toNat + 1)) + 11
      omega
  | pTerm => exact Nat.le_refl _
  | pDone => cases ha
  | pFail => cases ha

/-- An exchange has at most the budget of its first phase ahead of it: 15 for each of 64 words, 10 for each of the other
three phases, and the completion. -/
theorem phaseBudget_le {p : Phase} {i q : Count} (hq : p ≠ .pFail → q.toNat ≤ 64) :
    phaseBudget p i q ≤ 15 * 64 + 31 := by
  cases p with
  | pData =>
    have hq64 := hq nofun
    show 5 * 3 + (15 * (q.toNat - (i.toNat + 1)) + 11) ≤ 15 * 64 + 31
    omega
  | pTask => exact Nat.le_refl _
  | pQty => exact Nat.le_add_right (15 * 64 + 21) 10
  | pTerm => exact Nat.le_add_left 11 (15 * 64 + 20)
  | pDone => exact Nat.le_add_left 1 (15 * 64 + 30)
  | pFail => exact Nat.le_add_left 1 (15 * 64 + 30)

/-- An engine with at most four retries and one attempt in progress is within the budget of its phase. -/
theorem stepsLeft_le_phaseBudget {s : State} (hretries : s.retriesLeft ≤ 4)
    (hleft : attemptLeft s.role s.phase s.ustep ≤ attemptLength s.phase) :
    s.stepsLeft ≤ phaseBudget s.phase s.idx s.q := by
  have hmul := Nat.mul_le_mul_left (attemptLength s.phase) hretries
  unfold State.stepsLeft phaseBudget
  split
  · exact Nat.zero_le _
  · split <;> omega

theorem retriesLeft_receiver {s : State} (hr : s.role = .receiver) : s.retriesLeft = 0 := by
  simp [State.retriesLeft, hr]

/-- An engine that enters the next phase has no more ahead of it than the phase it leaves counted on. -/
theorem stepsLeft_succession {s t : State} (ha : activePhase s.phase = true) (hq64 : s.q.toNat ≤ 64)
    (hp : t.phase = (nextPhase s.phase s.idx s.q).1) (hi : t.idx = (nextPhase s.phase s.idx s.q).2) (hq : t.q = s.q)
    (hretries : t.retriesLeft ≤ 4) (hleft : attemptLeft t.role t.phase t.ustep ≤ attemptLength t.phase) :
    t.stepsLeft ≤ afterPhase s.phase s.idx s.q :=
  calc t.stepsLeft ≤ phaseBudget t.phase t.idx t.q := stepsLeft_le_phaseBudget hretries hleft
    _ = phaseBudget (nextPhase s.phase s.idx s.q).1 (nextPhase s.phase s.idx s.q).2 s.q := by rw [hp, hi, hq]
    _ ≤ afterPhase s.phase s.idx s.q := phaseBudget_nextPhase ha hq64

theorem Inv.qty_le {s : State} (h : Inv s) (ha : activePhase s.phase = true) : s.q.toNat ≤ 64 :=
  h.qMax fun hf => by rw [hf] at ha; cases ha

/-! ## The end of an attempt -/

/-- A phase that succeeds at the end of an attempt leaves less ahead than the attempt had. -/
theorem stepsLeft_lt_of_succession {s t : State} (h : Inv s) (hr : s.role ≠ .idle) (ha : activePhase s.phase = true)
    (hp : t.phase = (nextPhase s.phase s.idx s.q).1) (hi : t.idx = (nextPhase s.phase s.idx s.q).2) (hq : t.q = s.q)
    (hretries : t.retriesLeft ≤ 4) (hleft : attemptLeft t.role t.phase t.ustep ≤ attemptLength t.phase) :
    t.stepsLeft < s.stepsLeft := by
  have hnext := stepsLeft_succession ha (h.qty_le ha) hp hi hq hretries hleft
  have hpos := attemptLeft_pos s.role s.phase s.ustep
  rw [stepsLeft_active hr ha]
  omega

/-- Within an attempt a micro-step shortens it: the retries and what comes after the phase stay. -/
theorem stepsLeft_lt_of_attemptLeft {s t : State} (hr : s.role ≠ .idle) (ha : activePhase s.phase = true)
    (hrole : t.role = s.role) (hp : t.phase = s.phase) (hretries : t.retriesLeft = s.retriesLeft)
    (hafter : afterPhase s.phase t.idx t.q = afterPhase s.phase s.idx s.q)
    (hleft : attemptLeft s.role s.phase t.ustep < attemptLeft s.role s.phase s.ustep) :
    t.stepsLeft < s.stepsLeft := by
  rw [stepsLeft_active hr ha, stepsLeft_active (hrole ▸ hr) (hp ▸ ha), hrole, hp, hretries, hafter]
  omega

/-- A Receiver shortens its attempt whatever it writes besides, as long as P_DATA keeps its index and quantity. -/
theorem stepsLeft_lt_of_receiver {s t : State} (hr : s.role = .receiver) (ha : activePhase s.phase = true)
    (hrole : t.role = s.role) (hp : t.phase = s.phase) (hi : t.idx = s.idx) (hq : s.phase = .pData → t.q = s.q)
    (hleft : attemptLeft .receiver s.phase t.ustep < attemptLeft .receiver s.phase s.ustep) :
    t.stepsLeft < s.stepsLeft := by
  refine stepsLeft_lt_of_attemptLeft (by simp [hr]) ha hrole hp ?_ ?_ (hr ▸ hleft)
  · rw [retriesLeft_receiver hr, retriesLeft_receiver (hrole.trans hr)]
  · rw [hi]
    by_cases hd : s.phase = .pData
    · rw [hq hd]
    · exact afterPhase_quantity s.idx t.q s.q hd

/-- A Receiver that waits has its acknowledgment still ahead of it. -/
theorem one_lt_attemptLeft {s : State} {k : Kind} (hr : s.role = .receiver)
    (hk : expected s.role s.phase s.ustep = some k) : 1 < attemptLeft .receiver s.phase s.ustep := by
  obtain hu | ⟨hu, -⟩ := (receiver_awaits hr hk).2 <;> rw [hu]
  · rw [attemptLeft_wait_receiver, attemptLength]
    split <;> decide
  · exact Nat.one_lt_two

/-- A failed attempt costs the Sender one of its five, the last of them the exchange; a Receiver's failed wait is
followed by its negative acknowledgment (R180 to R182). -/
theorem failStep_stepsLeft {s : State} {k : Kind} (c : Cause) (hk : expected s.role s.phase s.ustep = some k)
    (hr : s.role ≠ .idle) : (failStep c s).stepsLeft < s.stepsLeft := by
  obtain ⟨hi, -⟩ | ⟨hs, hatt, e⟩ | ⟨hs, c', e⟩ | ⟨hs, e⟩ := failStep_cases c s
  · exact (hr hi).elim
  · obtain ⟨ha, hu⟩ := sender_awaits hs hk
    have hretry : 5 - s.att.toNat = (4 - s.att.toNat) + 1 := by omega
    rw [e, stepsLeft_active hr ha]
    refine (stepsLeft_active (s := { s with ustep := .uTx, .. }) hr ha).trans_lt ?_
    simp only [State.retriesLeft, attemptLeft, hs, hu, if_true, reduceCtorEq, if_false, hretry, Nat.mul_succ]
    omega
  · rw [e]
    exact (stepsLeft_ended (s := { s with phase := .pFail, .. }) hr rfl).trans_lt
      (one_lt_stepsLeft hr (sender_awaits hs hk).1)
  · rw [e]
    exact stepsLeft_lt_of_receiver hs (receiver_awaits hs hk).1 rfl rfl rfl (fun _ => rfl) (one_lt_attemptLeft hs hk)

/-- A Receiver that takes a frame goes on to the next micro-step of its attempt (R153 to R164). -/
theorem receiverAccepts_stepsLeft {s t : State} {k : Kind} {v : Word} (hr : s.role = .receiver)
    (hk : expected s.role s.phase s.ustep = some k) (h : receiverAccepts k v s = .next t) :
    t.stepsLeft < s.stepsLeft := by
  obtain ⟨ha, hwait⟩ := receiver_awaits hr hk
  obtain ⟨hqty, hdata, -⟩ := receiver_awaits_kind hr hk
  have hack := one_lt_attemptLeft hr hk
  cases k with
  | task => cases h; exact stepsLeft_lt_of_receiver hr ha rfl rfl rfl (fun _ => rfl) hack
  | ack => exact (expected_receiver _ _ _ (hr ▸ hk) rfl).elim
  | quantity =>
    cases h
    exact stepsLeft_lt_of_receiver hr ha rfl rfl rfl (fun hd => by simp [hqty rfl] at hd) hack
  | terminator => cases h; exact stepsLeft_lt_of_receiver hr ha rfl rfl rfl (fun _ => rfl) hack
  | data =>
    cases h
    refine stepsLeft_lt_of_receiver hr ha rfl rfl rfl (fun _ => rfl) ?_
    obtain hu | ⟨hu, hd⟩ := hwait
    · rw [hu, hdata rfl]; exact Nat.lt_succ_self 2
    · rw [hr, hu, hd] at hk; cases hk
  | checksum =>
    simp only [receiverAccepts] at h
    split at h
    · cases h; exact stepsLeft_lt_of_receiver hr ha rfl rfl rfl (fun _ => rfl) hack
    · cases h

/-- The judgement of a waiting micro-step ends or shortens an attempt. -/
theorem Inv.judge_stepsLeft {s t : State} {r : Option Frame} (h : Inv s) (hw : s.awaits = true)
    (hj : Machine.judge r s = .next t) : t.stepsLeft < s.stepsLeft := by
  have hr : s.role ≠ .idle := fun hi => by rw [not_awaits_of_idle hi] at hw; cases hw
  obtain ⟨hn, -⟩ | ⟨k, c, hk, -, e⟩ | ⟨k, hk, -, hs, e⟩ | ⟨k, f, hk, -, hs, -, e⟩ := judge_cases r s
  · obtain ⟨k, hk⟩ := (awaits_iff s).mp hw
    rw [hn] at hk; cases hk
  · rw [e] at hj; cases hj
    exact failStep_stepsLeft c hk hr
  · rw [e] at hj; cases hj
    refine stepsLeft_lt_of_succession h hr (sender_awaits hs hk).1 rfl rfl rfl ?_ (Nat.le_refl _)
    simp [State.retriesLeft, Machine.advanceSender, hs]
  · rw [e] at hj
    exact receiverAccepts_stepsLeft hs hk hj

/-! ## Every micro-step -/

/-- A transmission of the Sender that starts an attempt takes one of the attempts it counted at U_TX. -/
theorem retriesLeft_attempt {s t : State} (hr : s.role = .sender) (hu : s.ustep = .uTx) (hatt : s.att.toNat ≤ 4)
    (hrole : t.role = .sender) (hne : t.ustep ≠ .uTx) (ht : t.att = s.att + 1) : t.retriesLeft = s.retriesLeft := by
  have hsucc : t.att.toNat = s.att.toNat + 1 := by rw [ht]; bv_omega
  rw [State.retriesLeft, State.retriesLeft, if_pos hr, if_pos hu, if_pos hrole, if_neg hne, hsucc]
  omega

/-- Every micro-step of an exchange brings its end nearer, whatever the adapter answers. -/
theorem Inv.engineStep_stepsLeft {s t : State} (h : Inv s) (hr : s.role ≠ .idle)
    (hstep : Machine.engineStep s = .next t) : t.stepsLeft < s.stepsLeft := by
  obtain ha | ⟨ok, hp⟩ := activePhase_or_ended s.phase
  · cases engineStep_move hstep with
    | rest hi => exact (hr hi).elim
    | complete ok _ hp => rw [hp] at ha; cases ok <;> cases ha
    | frame v w hs _ hd hu =>
      refine stepsLeft_lt_of_attemptLeft hr ha rfl rfl
        (retriesLeft_attempt hs hu (h.attTx hs ha hu) hs nofun rfl) rfl ?_
      rw [hs, hu]
      show 1 < attemptLength s.phase
      rw [attemptLength, if_neg hd]
      decide
    | word w hs hp hu =>
      refine stepsLeft_lt_of_attemptLeft hr ha rfl rfl
        (retriesLeft_attempt hs hu (h.attTx hs ha hu) hs nofun rfl) rfl ?_
      rw [hu, hp]
      show 2 < 3
      decide
    | checksum v w hs hp hu =>
      refine stepsLeft_lt_of_attemptLeft hr ha rfl rfl ?_ rfl ?_
      · simp [State.retriesLeft, hs, hu]
      · rw [hs, hu]
        exact Nat.one_lt_two
    | acknowledge v w hs _ hu hk =>
      refine stepsLeft_lt_of_succession h hr ha rfl rfl rfl ?_ ?_
      · rw [retriesLeft_receiver (by exact hs)]
        exact Nat.zero_le 4
      · show attemptLeft s.role _ .uRx ≤ _
        rw [hs, attemptLeft_wait_receiver]
    | reject v w hs hu =>
      exact (stepsLeft_ended (s := Machine.xmit v w { s with phase := .pFail }) hr rfl).trans_lt
        (one_lt_stepsLeft hr ha)
    | await r _ hw hj =>
      have hrecv : (Machine.recv s).2.stepsLeft = s.stepsLeft :=
        recv_keeps State.stepsLeft (fun _ _ _ _ _ _ _ => rfl) s
      have hw' : (Machine.recv s).2.awaits = true :=
        (recv_keeps State.awaits (fun _ _ _ _ _ _ _ => rfl) s).trans hw
      exact (h.recv.judge_stepsLeft hw' hj).trans_eq hrecv
  · rw [engineStep_complete ok hr hp] at hstep
    cases hstep
    rw [stepsLeft_idle (complete_role ok s), stepsLeft_ended hr (by rw [hp]; cases ok <;> rfl)]
    exact Nat.one_pos

/-- A state of the invariant has at most 991 micro-steps ahead of it. -/
theorem Inv.stepsLeft_le {s : State} (h : Inv s) (hr : s.role ≠ .idle) : s.stepsLeft ≤ 15 * 64 + 31 := by
  obtain ha | ⟨ok, hp⟩ := activePhase_or_ended s.phase
  · refine (stepsLeft_le_phaseBudget ?_ ?_).trans (phaseBudget_le h.qMax)
    · cases hs : s.role with
      | idle => exact (hr hs).elim
      | receiver => rw [retriesLeft_receiver hs]; exact Nat.zero_le 4
      | sender =>
        rw [State.retriesLeft, if_pos hs]
        split
        · exact Nat.sub_le 4 _
        · next hu => have := h.attRx hs ha hu; omega
    · cases hu : s.ustep with
      | uTx => exact Nat.le_refl _
      | uRx =>
        simp only [attemptLeft]
        split
        · exact attemptLength_pos s.phase
        · exact Nat.le_refl _
      | uTxa => exact attemptLength_pos s.phase
      | uTxc => rw [(h.txcData hu).2]; exact Nat.le_succ 2
      | uRxc => rw [(h.rxcData hu).2]; exact Nat.le_succ 2
  · rw [stepsLeft_ended hr (by rw [hp]; cases ok <;> rfl)]
    exact Nat.le_add_left 1 (15 * 64 + 30)

/-! ## The host's accesses -/

theorem judge_host {r : Option Frame} {s t : State} (h : judge r s = .next t) : t.host = s.host := by
  obtain ⟨-, e⟩ | ⟨k, c, -, -, e⟩ | ⟨k, -, -, -, e⟩ | ⟨k, f, -, -, -, -, e⟩ := judge_cases r s <;> rw [e] at h
  · cases h; rfl
  · cases h
    obtain ⟨-, e⟩ | ⟨-, -, e⟩ | ⟨-, c', e⟩ | ⟨-, e⟩ := failStep_cases c s <;> rw [e]
  · cases h; rfl
  · obtain ⟨_, _, _, _, _, _, _, rfl⟩ := receiverAccepts_frame h
    rfl

/-- The engine's micro-step leaves the host's coming accesses alone. -/
theorem EngineMove.host {s t : State} (h : EngineMove s t) : t.host = s.host := by
  cases h with
  | rest => rfl
  | complete ok => exact complete_host ok s
  | frame => rfl
  | word => rfl
  | checksum => rfl
  | acknowledge => rfl
  | reject => rfl
  | await r _ _ hj => exact (judge_host hj).trans (recv_host s)

/-! ## The obligation -/

/-- Under a silent host a run of at most `n` micro-steps completes the exchange when no more than `n` are left. -/
theorem Inv.exchange_ends (n : Nat) {s : State} (h : Inv s) (hr : s.role ≠ .idle) (hh : s.host = [])
    (hn : s.stepsLeft ≤ n) :
    ∃ m t, m ≤ n ∧ runSteps m s = some t ∧ t.role = .idle ∧ t.statusDone = true := by
  induction n generalizing s with
  | zero =>
    obtain ⟨t, ht⟩ := h.engineStep
    exact absurd ((h.engineStep_stepsLeft hr ht).trans_le hn) (Nat.not_lt_zero _)
  | succ n ih =>
    obtain ⟨t, ht⟩ := h.engineStep
    have hlt := h.engineStep_stepsLeft hr ht
    have hrun (m : Nat) : runSteps (m + 1) s = runSteps m t := by
      rw [runSteps, step_quiet (takeHost_nil hh), ht]
    have hmove := engineStep_move ht
    obtain hkeep | ⟨ok, -, -, rfl⟩ := hmove.status
    · obtain ⟨m, u, hm, hu, hdone⟩ := ih (hmove.inv h) (hkeep.role ▸ hr) (hmove.host.trans hh) (by omega)
      exact ⟨m + 1, u, Nat.succ_le_succ hm, (hrun m).trans hu, hdone⟩
    · exact ⟨1, _, Nat.succ_le_succ (Nat.zero_le n), hrun 0, complete_role ok s, complete_statusDone ok s⟩

/-- Settles O58: each micro-step lowers the number of those left, which is at most 991 at the start. -/
theorem everyExchangeEnds : Obligations.EveryExchangeEnds :=
  fun _ h hr hh => h.exchange_ends (15 * 64 + 31) hr hh (h.stepsLeft_le hr)

end Sys2Proof.Machine

/-! SUPPORT. The transport primitives (spec/43_transport_primitives.md): the window of a RECV poll by poll, how many
polls it makes, and the obligations about the transport operations. -/

namespace Sys2Proof.Machine

/-! ## Polls that find nothing -/

theorem silentPolls_add (pause m n : Nat) :
    silentPolls pause (m + n) = silentPolls pause m ++ silentPolls pause n := by
  induction m with
  | zero => rw [Nat.zero_add]; rfl
  | succ m ih => rw [Nat.succ_add, silentPolls, ih]; rfl

/-- The state after `m` polls that found nothing: those answers used up, the polls and their pauses in the trace, PR and
PI wherever the loops have them (R115). -/
def State.polledSilently (s : State) (m : Nat) (rest : List (Option Frame)) (r k : Nat) : State :=
  { s with answers := rest, trace := s.trace ++ silentPolls s.params.pollPause m, pr := r, pi := k }

theorem polledSilently_zero (s : State) : s.polledSilently 0 s.answers s.pr s.pi = s := by
  simp [State.polledSilently, silentPolls]

theorem polledSilently_polledSilently (s : State) (m n : Nat) (rest rest' : List (Option Frame)) (r k r' k' : Nat) :
    (s.polledSilently m rest r k).polledSilently n rest' r' k' = s.polledSilently (m + n) rest' r' k' := by
  simp [State.polledSilently, silentPolls_add]

/-- A poll of an inner loop that finds nothing is followed by the rest of the loop (R115). -/
theorem pollRound_next (round n i : Nat) (s : State) (rest : List (Option Frame)) (h : s.answers = none :: rest) :
    pollRound round (n + 1) i s = pollRound round n (i + 1) (s.polledSilently 1 rest round i) := by
  rw [pollRound, pollOnce_listed { s with pr := round, pi := i } none rest h]
  simp [State.polledSilently, silentPolls, State.emit]

/-- The first polls of an inner loop that find nothing leave the rest of the loop. -/
theorem pollRound_skip (round m n i : Nat) (s : State) (rest : List (Option Frame))
    (h : s.answers = List.replicate m none ++ rest) :
    ∃ r k, pollRound round (m + n) i s = pollRound round n (i + m) (s.polledSilently m rest r k) := by
  induction m generalizing i s with
  | zero =>
    obtain rfl : s.answers = rest := h
    exact ⟨s.pr, s.pi, by rw [Nat.zero_add, Nat.add_zero, polledSilently_zero]⟩
  | succ m ih =>
    rw [List.replicate_succ, List.cons_append] at h
    obtain ⟨r, k, hskip⟩ := ih (i + 1) (s.polledSilently 1 _ round i) rfl
    refine ⟨r, k, ?_⟩
    rw [Nat.succ_add, pollRound_next round (m + n) i s _ h, hskip, polledSilently_polledSilently, Nat.add_comm 1 m,
      Nat.succ_add_eq_add_succ]

/-- A round in which every poll finds nothing is followed by the next round (R115). -/
theorem pollRounds_next (n round : Nat) (s : State) (rest : List (Option Frame))
    (h : s.answers = List.replicate s.params.pollIters none ++ rest) :
    ∃ r k, pollRounds (n + 1) round s = pollRounds n (round + 1) (s.polledSilently s.params.pollIters rest r k) := by
  obtain ⟨r, k, hround⟩ := pollRound_skip round s.params.pollIters 0 0 s rest h
  rw [Nat.add_zero, pollRound] at hround
  exact ⟨r, k, by rw [pollRounds, hround]⟩

/-- Rounds in which every poll finds nothing find nothing (R115). -/
theorem pollRounds_unheard (n round : Nat) (s : State) (rest : List (Option Frame))
    (h : s.answers = List.replicate (n * s.params.pollIters) none ++ rest) :
    ∃ r k, pollRounds n round s = (none, s.polledSilently (n * s.params.pollIters) rest r k) := by
  induction n generalizing round s with
  | zero =>
    rw [Nat.zero_mul] at h ⊢
    obtain rfl : s.answers = rest := h
    exact ⟨s.pr, s.pi, by rw [polledSilently_zero, pollRounds]⟩
  | succ n ih =>
    rw [Nat.succ_mul, Nat.add_comm, List.replicate_add, List.append_assoc] at h
    obtain ⟨r, k, hnext⟩ := pollRounds_next n round s _ h
    obtain ⟨r', k', hrest⟩ := ih (round + 1)
      (s.polledSilently s.params.pollIters (List.replicate (n * s.params.pollIters) none ++ rest) r k) rfl
    refine ⟨r', k', ?_⟩
    rw [hnext, hrest, polledSilently_polledSilently, Nat.succ_mul, Nat.add_comm (n * _)]
    rfl

/-! ## The first frame -/

/-- An inner loop ends at the first frame its polls find, whatever the frame's tag (R115). -/
theorem pollRound_frame (round n j i : Nat) (s : State) (f : Frame) (rest : List (Option Frame))
    (h : s.answers = List.replicate j none ++ some f :: rest) (hj : j < n) :
    ∃ r k, pollRound round n i s = (some f, (s.polledSilently j rest r k).emit (.poll (some f))) := by
  obtain ⟨m, rfl⟩ : ∃ m, n = j + (m + 1) := ⟨n - (j + 1), by omega⟩
  obtain ⟨r, k, hskip⟩ := pollRound_skip round j (m + 1) i s _ h
  refine ⟨round, i + j, ?_⟩
  rw [hskip, pollRound_first round m (i + j) (s.polledSilently j (some f :: rest) r k) f rest rfl]
  rfl

/-- The window ends at the first frame, in whichever round it is found (R115). -/
theorem pollRounds_frame (n round j : Nat) (s : State) (f : Frame) (rest : List (Option Frame))
    (h : s.answers = List.replicate j none ++ some f :: rest) (hj : j < n * s.params.pollIters) :
    ∃ r k, pollRounds n round s = (some f, (s.polledSilently j rest r k).emit (.poll (some f))) := by
  induction n generalizing round j s with
  | zero => rw [Nat.zero_mul] at hj; exact (Nat.not_lt_zero j hj).elim
  | succ n ih =>
    rw [Nat.succ_mul] at hj
    obtain hthis | hlater := Nat.lt_or_ge j s.params.pollIters
    · obtain ⟨r, k, hround⟩ := pollRound_frame round s.params.pollIters j 0 s f rest h hthis
      exact ⟨r, k, by rw [pollRounds, hround]⟩
    · obtain ⟨l, rfl⟩ := Nat.exists_eq_add_of_le hlater
      rw [List.replicate_add, List.append_assoc] at h
      obtain ⟨r, k, hnext⟩ := pollRounds_next n round s _ h
      obtain ⟨r', k', hrest⟩ := ih (round + 1) l (s.polledSilently s.params.pollIters _ r k) rfl
        (show l < n * s.params.pollIters by omega)
      refine ⟨r', k', ?_⟩
      rw [hnext, hrest, polledSilently_polledSilently]

/-! ## The window of a RECV -/

/-- What RECV does after its polls: PR and PI back to 0, the wait, the latch (R115, R116). -/
theorem exec_recv_of_window {s t : State} {o : Option Frame}
    (h : pollRounds s.params.pollRounds 0 (s.emit .listen) = (o, t)) (hp : t.params = s.params) :
    exec .recv s = .next ((latch o ({ t with pr := 0, pi := 0 }.emit (.wait s.params.tFrame))).showOut (.frame o)) := by
  simp only [exec, execRecv, recv, beginListening_eq, h]
  rw [hp]
  rfl

/-- Settles O8: the window up to the first frame, or the whole of it, and what RECV does after its polls. -/
theorem recvReturnsTheFirstFrameOfItsWindow : Obligations.RecvReturnsTheFirstFrameOfItsWindow := by
  refine ⟨fun s f rest k h hk => ?_, fun s rest h => ?_⟩
  · obtain ⟨r, i, hwindow⟩ := pollRounds_frame s.params.pollRounds 0 k (s.emit .listen) f rest h hk
    rw [exec_recv_of_window hwindow rfl]
    simp [latch, State.showOut, State.emit, State.polledSilently]
  · obtain ⟨r, i, hwindow⟩ := pollRounds_unheard s.params.pollRounds 0 (s.emit .listen) rest h
    rw [exec_recv_of_window hwindow rfl]
    simp [latch, State.showOut, State.emit, State.polledSilently]

/-! ## How many polls a window makes -/

theorem pollCount_append (as bs : List Action) : pollCount (as ++ bs) = pollCount as + pollCount bs := by
  induction as with
  | nil => exact (Nat.zero_add _).symm
  | cons x as ih => cases x <;> simp [pollCount, ih, Nat.add_right_comm]

/-- From `s` to `t` the polling loops changed what they may, and made `lo` to `hi` polls. -/
def PollsBetween (lo hi : Nat) (s t : State) : Prop :=
  ∃ a p tr r k, t = { s with answers := a, polls := p, trace := s.trace ++ tr, pr := r, pi := k } ∧
    lo ≤ pollCount tr ∧ pollCount tr ≤ hi

theorem PollsBetween.params {lo hi : Nat} {s t : State} (h : PollsBetween lo hi s t) : t.params = s.params := by
  obtain ⟨a, p, tr, r, k, rfl, -⟩ := h
  rfl

theorem PollsBetween.trans {lo hi lo' hi' : Nat} {s t u : State} (h : PollsBetween lo hi s t)
    (h' : PollsBetween lo' hi' t u) : PollsBetween (lo + lo') (hi + hi') s u := by
  obtain ⟨a, p, tr, r, k, rfl, hlo, hhi⟩ := h
  obtain ⟨a', p', tr', r', k', rfl, hlo', hhi'⟩ := h'
  refine ⟨a', p', tr ++ tr', r', k', by simp, ?_⟩
  rw [pollCount_append]
  exact ⟨Nat.add_le_add hlo hlo', Nat.add_le_add hhi hhi'⟩

theorem PollsBetween.mono {lo hi lo' hi' : Nat} {s t : State} (h : PollsBetween lo hi s t) (hlo : lo' ≤ lo)
    (hhi : hi ≤ hi') : PollsBetween lo' hi' s t := by
  obtain ⟨a, p, tr, r, k, ht, hl, hh⟩ := h
  exact ⟨a, p, tr, r, k, ht, hlo.trans hl, hh.trans hhi⟩

theorem pollsBetween_refl (s : State) : PollsBetween 0 0 s s :=
  ⟨s.answers, s.polls, [], s.pr, s.pi, by simp, Nat.le_refl 0, Nat.le_refl 0⟩

/-- One poll of an inner loop. -/
theorem pollsBetween_pollOnce (s : State) (round i : Nat) :
    PollsBetween 1 1 s (pollOnce { s with pr := round, pi := i }).2 := by
  obtain ⟨a, p, h⟩ := pollOnce_spec { s with pr := round, pi := i }
  exact ⟨a, p, [.poll _], round, i, h, Nat.le_refl 1, Nat.le_refl 1⟩

theorem pollsBetween_wait (s : State) (n : Nat) : PollsBetween 0 0 s (waitUnits n s) :=
  ⟨s.answers, s.polls, [.wait n], s.pr, s.pi, rfl, Nat.le_refl 0, Nat.le_refl 0⟩

/-- An inner loop makes at most as many polls as it has iterations, and at least one if it has any (R115). -/
theorem pollsBetween_pollRound (round n i : Nat) (s : State) :
    PollsBetween (min 1 n) n s (pollRound round n i s).2 := by
  induction n generalizing i s with
  | zero => exact pollsBetween_refl s
  | succ n ih =>
    have hpoll := pollsBetween_pollOnce s round i
    simp only [pollRound]
    rcases hp : pollOnce { s with pr := round, pi := i } with ⟨o, t⟩
    rw [hp] at hpoll
    cases o with
    | some f => exact hpoll.mono (by omega) (by omega)
    | none => exact ((hpoll.trans (pollsBetween_wait t _)).trans (ih (i + 1) _)).mono (by omega) (by omega)

/-- The rounds make at most POLL_ITERS polls each, and at least one in all (R115). -/
theorem pollsBetween_pollRounds (n round : Nat) (s : State) :
    PollsBetween (min 1 n) (n * s.params.pollIters) s (pollRounds n round s).2 := by
  induction n generalizing round s with
  | zero => exact (pollsBetween_refl s).mono (Nat.le_refl 0) (Nat.zero_le _)
  | succ n ih =>
    have hiters : 1 ≤ s.params.pollIters := Nat.succ_pos _
    have hround := pollsBetween_pollRound round s.params.pollIters 0 s
    simp only [pollRounds]
    rcases hp : pollRound round s.params.pollIters 0 s with ⟨o, t⟩
    rw [hp] at hround
    rw [Nat.succ_mul]
    cases o with
    | some f => exact hround.mono (by omega) (by omega)
    | none =>
      have hrest := ih (round + 1) t
      rw [hround.params] at hrest
      exact (hround.trans hrest).mono (by omega) (by omega)

/-- Settles O9: the polls of the rounds are those of RECV, which adds one `listen` and one wait. -/
theorem recvAlwaysEndsWithinItsWindow : Obligations.RecvAlwaysEndsWithinItsWindow := by
  intro s
  have hpolls := pollsBetween_pollRounds s.params.pollRounds 0 (s.emit .listen)
  rcases hwindow : pollRounds s.params.pollRounds 0 (s.emit .listen) with ⟨o, t⟩
  rw [hwindow] at hpolls
  obtain ⟨a, p, tr, r, k, rfl, hlo, hhi⟩ := hpolls
  refine ⟨o, a, p, .listen :: tr ++ [.wait s.params.tFrame], ?_, ?_⟩
  · rw [exec_recv_of_window hwindow rfl]
    cases o <;> simp [latch, State.showOut, State.emit]
  · rw [pollCount_append]
    exact ⟨hlo, hhi⟩

/-! ## The obligations about the other operations -/

/-- Settles O10: what `accept` asks of an acknowledgment, the tag and the payload as numbers. -/
theorem receiveAckJudgesOneRecv : Obligations.ReceiveAckJudgesOneRecv := by
  intro s s' e r h
  have hack : receiveAck e s = ((acceptFrame r .ack e s'.crc).1, s') := by rw [receiveAck_eq, h]
  refine ⟨(acceptFrame r .ack e s'.crc).1, by rw [exec, execReceiveAck, hack]; rfl, ?_⟩
  rw [acceptFrame_ok]
  simp only [tagToKind_eq_some_iff, payloadValid_ack, decide_eq_true_eq, kindToTag, eq_comm (a := 13)]

/-- Settles O11: each operation is the actions it appends to the trace. -/
theorem transmitListenAndXmitAreTheirActions : Obligations.TransmitListenAndXmitAreTheirActions := by
  intro s v w
  refine ⟨rfl, rfl, ?_⟩
  simp [exec, execXmit, State.showOut, State.emit]

/-- Settles O12: a listed answer is used up, and beyond the list the free answer stands for any. -/
theorem pollOnceUsesUpItsAnswer : Obligations.PollOnceUsesUpItsAnswer := by
  refine ⟨fun s r rest h => ?_, fun s h => ⟨freeAnswer s.params s.polls, ?_⟩⟩
  · rw [exec, execPollOnce, pollOnce_listed s r rest h]
    rfl
  · rw [exec, execPollOnce, pollOnce, takeAnswer, h]
    rfl

end Sys2Proof.Machine

/-! SUPPORT. The Sender (spec/44_sender.md): its judgement of an acknowledgment, its transmissions, the completion step,
the five attempts at a phase that no acknowledgment ends; and the obligations about them. -/

namespace Sys2Proof.Machine

/-! ## The judgement of an acknowledgment -/

/-- What a RECV returned is an acknowledgment that validates for the task `e` (R136). -/
def Validates (e : Task) (r : Option Frame) : Prop :=
  ∃ f, r = some f ∧ f.tag = 13 ∧ f.value.toNat % 2 ^ 13 = 0x1000 + e.toNat

theorem acceptFrame_ack_iff (r : Option Frame) (e : Task) (c : Crc) :
    (acceptFrame r .ack e c).1 = true ↔ Validates e r := by
  rw [acceptFrame_ok]
  simp only [tagToKind_eq_some_iff, payloadValid_ack, decide_eq_true_eq, kindToTag, eq_comm (a := 13), Validates]

/-- The three ghost causes of a failed attempt (R137). -/
def AttemptCause (c : Cause) : Prop := c = .ackMiss ∨ c = .ackWrongKind ∨ c = .ackMismatch

theorem AttemptCause.ne_operandRange {c : Cause} (h : AttemptCause c) : c ≠ .operandRange := by
  rintro rfl
  simp [AttemptCause] at h

theorem acceptFrame_ack_fails {r : Option Frame} {e : Task} (x : Crc) (h : ¬Validates e r) :
    ∃ c, AttemptCause c ∧ acceptFrame r .ack e x = (false, some c) := by
  cases r with
  | none => exact ⟨.ackMiss, .inl rfl, rfl⟩
  | some f =>
    cases hk : tagToKind f.tag with
    | none => exact ⟨.ackWrongKind, .inr (.inl rfl), acceptFrame_unrecognised .ack e x hk⟩
    | some k =>
      obtain rfl | hne := eq_or_ne k .ack
      · have hinvalid : ¬payloadValid .ack f.value e x = true := fun hv =>
          h ((acceptFrame_ack_iff _ e x).mp ((acceptFrame_ok _ _ _ _).mpr ⟨f, rfl, hk, hv⟩))
        exact ⟨.ackMismatch, .inr (.inr rfl), (acceptFrame_same hk).trans (if_neg hinvalid)⟩
      · exact ⟨.ackWrongKind, .inr (.inl rfl), acceptFrame_other e x hk hne⟩

/-- A Sender at its wait judges well what validates for its task, and advances (R136). -/
theorem judge_validating {r : Option Frame} {s : State} (hk : expected s.role s.phase s.ustep = some .ack)
    (h : Validates s.t r) : judge r s = .next (advanceSender s) :=
  judge_advances r s .ack _ ((expected_ack_iff _ _ _).mp hk).1 hk
    (Prod.ext ((acceptFrame_ack_iff r s.t s.crc).mpr h) rfl)

/-- Anything else is a failed attempt (R137). -/
theorem judge_not_validating {r : Option Frame} {s : State} (hk : expected s.role s.phase s.ustep = some .ack)
    (h : ¬Validates s.t r) : ∃ c, AttemptCause c ∧ judge r s = .next (failStep c s) := by
  obtain ⟨c, hc, hfail⟩ := acceptFrame_ack_fails s.crc h
  exact ⟨c, hc, judge_fails r s .ack c hk hfail⟩

/-! ## Acknowledgments as instructions -/

/-- An acknowledgment of the awaited task, run by a Sender at its wait (R136). -/
theorem exec_ack_validating {s : State} (hk : expected s.role s.phase s.ustep = some .ack) :
    exec (.ack s.t) s = .next (advanceSender s) := by
  have hr : s.role = .sender := ((expected_ack_iff _ _ _).mp hk).1
  have hvalid : payloadValid .ack (ackValue s.t true) s.t s.crc = true := by simp [payloadValid]
  rw [(FrameRow.ack s.t).exec_eq_judge, judge_frameOf_same _ hk, if_pos hvalid, if_pos hr]

/-- A negative acknowledgment, and one of another task, run by a Sender at its wait (R137). -/
theorem exec_ack_mismatched {s : State} {e : Task} {i : Instr} (hk : expected s.role s.phase s.ustep = some .ack)
    (hi : i = .nack e ∨ (i = .ack e ∧ e ≠ s.t)) : exec i s = .next (failStep .ackMismatch s) := by
  obtain ⟨b, hrow, hb⟩ : ∃ b, FrameRow i .ack (ackValue e b) ∧ (b && e == s.t) = false := by
    obtain rfl | ⟨rfl, hne⟩ := hi
    · exact ⟨false, .nack e, rfl⟩
    · exact ⟨true, .ack e, by simpa using hne⟩
  have hinvalid : ¬payloadValid .ack (ackValue e b) s.t s.crc = true := by simp [payloadValid, hb]
  rw [hrow.exec_eq_judge, judge_frameOf_same _ hk, if_neg hinvalid]
  rfl

/-- The advance of a Sender whose phase has a known successor (R36, R136). -/
theorem advanceSender_of_next {s : State} {p : Phase} {i : Count} (h : nextPhase s.phase s.idx s.q = (p, i)) :
    advanceSender s = { s with phase := p, idx := i, att := 0, ustep := .uTx } := by
  rw [advanceSender, h]

/-- Settles O28: the advance with the successor that the table of R36 gives each phase. -/
theorem senderAdvancesOnItsAcknowledgment : Obligations.SenderAdvancesOnItsAcknowledgment := by
  intro s hr hu
  have advance {p p' : Phase} {i' : Count} (hp : s.phase = p) (ha : activePhase p = true)
      (hn : nextPhase p s.idx s.q = (p', i')) :
      exec (.ack s.t) s = .next { s with phase := p', idx := i', att := 0, ustep := .uTx } := by
    subst hp
    rw [exec_ack_validating ((expected_ack_iff _ _ _).mpr ⟨hr, ha, hu⟩), advanceSender_of_next hn]
  obtain ⟨htask, hsome, hnone, hmore, hlast, hterm⟩ := nextPhase_table s.idx s.q
  refine ⟨fun hp => advance hp rfl htask, fun hp hq => advance hp rfl (hsome hq),
    fun hp hq => advance hp rfl (hnone hq), fun hp hi => ?_, fun hp hi => advance hp rfl (hlast hi),
    fun hp => advance hp rfl hterm⟩
  have hnext := advance hp rfl (hmore hi)
  rwa [← hp] at hnext

/-- Settles O29: the failed attempt by its mismatch, before the fifth and at the fifth. -/
theorem mismatchedAcknowledgmentIsAFailedAttempt : Obligations.MismatchedAcknowledgmentIsAFailedAttempt := by
  intro s e i hr ha hu hi
  rw [exec_ack_mismatched ((expected_ack_iff _ _ _).mpr ⟨hr, ha, hu⟩) hi]
  exact ⟨fun hatt => congrArg _ (failStep_retry .ackMismatch s hr (by decide) hatt),
    fun hatt => congrArg _ (failStep_exhausted .ackMismatch s hr (by decide) hatt.ge)⟩

/-! ## The wait -/

@[simp] theorem recv_att (s : State) : (recv s).2.att = s.att :=
  recv_keeps State.att (fun _ _ _ _ _ _ _ => rfl) s
@[simp] theorem recv_params (s : State) : (recv s).2.params = s.params :=
  recv_keeps State.params (fun _ _ _ _ _ _ _ => rfl) s

/-- Settles O34: the judgement of what the RECV returned, in the state the RECV leaves. -/
theorem senderWaitsAndJudges : Obligations.SenderWaitsAndJudges := by
  intro s s' s'' r hq hr ha hu hrecv
  obtain rfl := eq_hostTaken hq
  obtain ⟨rfl, rfl⟩ := Prod.ext_iff.mp hrecv.symm
  have hk : expected s.role s.phase s.ustep = some .ack := (expected_ack_iff _ _ _).mpr ⟨hr, ha, hu⟩
  have hk' : expected (recv s.hostTaken).2.role (recv s.hostTaken).2.phase (recv s.hostTaken).2.ustep = some .ack := by
    rw [recv_role, recv_phase, recv_ustep]; exact hk
  have hr' : (recv s.hostTaken).2.role = .sender := (recv_role _).trans hr
  rw [waitingStepIsRecvThenJudgement s _ _ _ hq ((awaits_iff _).mpr ⟨.ack, hk⟩) hrecv]
  refine ⟨fun hv => ?_, fun hv hatt => ?_, fun hv hatt => ?_⟩
  · rw [judge_validating hk' (by rw [recv_t]; exact hv), advanceSender, recv_phase, recv_idx, recv_q]
    rfl
  · obtain ⟨c, hc, hj⟩ := judge_not_validating hk' (by rw [recv_t]; exact hv)
    refine ⟨c, hc, ?_⟩
    rw [hj, failStep_retry c _ hr' hc.ne_operandRange (by rw [recv_att]; exact hatt), recv_params]
    rfl
  · obtain ⟨c, hc, hj⟩ := judge_not_validating hk' (by rw [recv_t]; exact hv)
    rw [hj, failStep_exhausted c _ hr' hc.ne_operandRange (by rw [recv_att]; exact hatt.ge)]

/-! ## The transmissions -/

/-- XMIT appends its two actions to the trace (R114). -/
theorem xmit_eq_trace (v : Word) (w : Tag) (s : State) :
    xmit v w s = { s with trace := s.trace ++ [.tx v w, .wait s.params.tFrame] } := by
  simp [State.emit]

/-- A Sender's U_TX in an active phase is the transmission of the phase's frame (R128). -/
theorem engineStep_uTx {s : State} (hr : s.role = .sender) (ha : activePhase s.phase = true) (hu : s.ustep = .uTx) :
    engineStep s = sendFrameStep s := by
  rw [engineStep_sender hr ha, senderStep, hu]

/-- A Sender's U_TXC is the transmission of the checksum (R133). -/
theorem engineStep_uTxc {s : State} (hr : s.role = .sender) (hp : s.phase = .pData) (hu : s.ustep = .uTxc) :
    engineStep s = sendChecksumStep s := by
  rw [engineStep_sender hr (by rw [hp]; rfl), senderStep, hu]
  exact if_pos hp

/-- Settles O32: the frame of each phase, with the two actions of its XMIT. -/
theorem senderTransmitsThePhasesFrame : Obligations.SenderTransmitsThePhasesFrame := by
  intro s s' hq hr hu
  obtain rfl := eq_hostTaken hq
  have hstep {p : Phase} (hp : s.phase = p) (ha : activePhase p = true) : step s = sendFrameStep s.hostTaken :=
    (step_quiet hq).trans (engineStep_uTx (s := s.hostTaken) hr (hp ▸ ha) hu)
  refine ⟨fun hp => ?_, fun hp => ?_, fun hp hi => ?_, fun hp => ?_⟩ <;>
    rw [hstep hp rfl, sendFrameStep, show s.hostTaken.phase = _ from hp]
  · exact congrArg _ (xmit_eq_trace _ _ _)
  · exact congrArg _ (xmit_eq_trace _ _ _)
  · exact (if_pos hi).trans (congrArg _ (xmit_eq_trace _ _ _))
  · exact congrArg _ (xmit_eq_trace _ _ _)

theorem step_uTxc {s : State} (hq : (takeHost s).1 = .quiet) (hr : s.role = .sender) (hp : s.phase = .pData)
    (hu : s.ustep = .uTxc) : step s = .next { s.hostTaken with
      trace := s.trace ++ [.tx ((checksum s.params.crc s.dw).setWidth 32) 16, .wait s.params.tFrame]
      crc := checksum s.params.crc s.dw, ustep := .uRx } := by
  calc step s = engineStep s.hostTaken := step_of_quiet hq
    _ = sendChecksumStep s.hostTaken := engineStep_uTxc hr hp hu
    _ = _ := congrArg Host.Outcome.next (xmit_eq_trace _ _ _)

/-- A host silent for a state is silent for every state with the same accesses to come. -/
theorem takeHost_quiet_congr {s t : State} (h : (takeHost s).1 = .quiet) (ht : t.host = s.host) :
    (takeHost t).1 = .quiet := by
  rwa [takeHost_fst, ht, ← takeHost_fst]

/-- Settles O33: U_TXC, and after the U_TX of P_DATA, which has put the word in DW. -/
theorem senderTransmitsTheChecksum : Obligations.SenderTransmitsTheChecksum := by
  refine ⟨fun s s' hq hr hp hu => ?_, fun s s' s'' hq hq' hr hp hu hi => ?_⟩
  · obtain rfl := eq_hostTaken hq
    exact step_uTxc (congrArg Prod.fst hq) hr hp hu
  · obtain ⟨-, -, hdata, -⟩ := senderTransmitsThePhasesFrame s s' hq hr hu
    obtain rfl := eq_hostTaken hq'
    obtain rfl := eq_hostTaken hq
    refine ⟨_, hdata hp hi, ?_⟩
    rw [step_uTxc]
    · simp [State.hostTaken]
    · exact takeHost_quiet_congr (congrArg Prod.fst hq') rfl
    · exact hr
    · exact hp
    · rfl

/-! ## The completion -/

/-- The completion of a SEND, or of a RECEIVE that fails (R140, R170). -/
theorem complete_without_results {ok : Bool} {s : State} (h : ¬(s.role = .receiver ∧ ok = true)) :
    complete ok s = { s with statusOk := ok, statusDone := true, statusBusy := false, role := .idle
                             trace := s.trace ++ [.done ok] } :=
  if_neg h

/-- The completion of a RECEIVE that succeeds (R170). -/
theorem complete_with_results {s : State} (h : s.role = .receiver) :
    complete true s = { s with statusOk := true, statusDone := true, statusBusy := false, role := .idle
                               resTask := s.t, resQty := s.q, trace := s.trace ++ [.done true] } :=
  if_pos ⟨h, rfl⟩

/-- Settles O41: the completion step of each role and outcome. -/
theorem completionReportsTheResult : Obligations.CompletionReportsTheResult := by
  intro s s' hq
  obtain rfl := eq_hostTaken hq
  have hstep (ok : Bool) (hr : s.role ≠ .idle) (hp : s.phase = if ok then .pDone else .pFail) :
      step s = .next (complete ok s.hostTaken) :=
    (step_quiet hq).trans (engineStep_complete (s := s.hostTaken) ok hr hp)
  refine ⟨fun hr hp => ?_, fun hr hp => ?_, fun hr hp => ?_⟩
  · rw [hstep true (by simp [hr]) hp, complete_without_results (by simp [State.hostTaken, hr])]
  · rw [hstep true (by simp [hr]) hp, complete_with_results (s := s.hostTaken) hr]
    rfl
  · rw [hstep false hr hp, complete_without_results (by simp)]

/-! ## A window of listed answers -/

/-- The polls of one RECV that hears nothing (R115). -/
def State.window (s : State) : Nat := s.params.pollRounds * s.params.pollIters

/-- What RECV returns and the answers it leaves, read from the operation. -/
theorem recv_of_exec {s t : State} {r : Option Frame} (h : exec .recv s = .next t) (ho : t.out = .frame r) :
    (recv s).1 = r ∧ (recv s).2.answers = t.answers := by
  obtain rfl : (recv s).2.showOut (.frame (recv s).1) = t := Host.Outcome.next.inj h
  exact ⟨OpResult.frame.inj ho, rfl⟩

/-- Among as many answers as a window polls, none is a frame or there is a first one. -/
theorem answers_cases (n : Nat) (as : List (Option Frame)) (h : n ≤ as.length) :
    (∃ rest, as = List.replicate n none ++ rest) ∨
    ∃ k f rest, as = List.replicate k none ++ some f :: rest ∧ k < n := by
  induction n generalizing as with
  | zero => exact .inl ⟨as, rfl⟩
  | succ n ih =>
    match as, h with
    | some f :: rest, _ => exact .inr ⟨0, f, rest, rfl, Nat.succ_pos n⟩
    | none :: as, h =>
      obtain ⟨rest, rfl⟩ | ⟨k, f, rest, rfl, hk⟩ := ih as (Nat.le_of_succ_le_succ h)
      · exact .inl ⟨rest, rfl⟩
      · exact .inr ⟨k + 1, f, rest, rfl, Nat.succ_lt_succ hk⟩

/-- When the answers to a whole window are listed, RECV returns one of them or nothing, and uses up no more of them
than the window polls. -/
theorem recv_listed {s : State} (h : s.window ≤ s.answers.length) :
    (∀ f, (recv s).1 = some f → some f ∈ s.answers) ∧
      ∃ used, s.answers = used ++ (recv s).2.answers ∧ used.length ≤ s.window := by
  obtain ⟨hframe, hsilent⟩ := recvReturnsTheFirstFrameOfItsWindow
  obtain ⟨rest, has⟩ | ⟨k, f, rest, has, hk⟩ := answers_cases _ _ h
  · obtain ⟨hr, hleft⟩ := recv_of_exec (hsilent s rest has) rfl
    rw [hr, hleft]
    exact ⟨nofun, _, has, by simp⟩
  · obtain ⟨hr, hleft⟩ := recv_of_exec (hframe s f rest k has hk) rfl
    rw [hr, hleft]
    refine ⟨fun g hg => ?_, List.replicate k none ++ [some f], by simp [has], by simpa using hk⟩
    cases hg
    simp [has]

/-! ## Runs -/

theorem runSteps_succ {s t : State} (n : Nat) (h : step s = .next t) : runSteps (n + 1) s = runSteps n t := by
  rw [runSteps, h]

/-- A run continues from where its first steps lead. -/
theorem runSteps_add {m : Nat} {s t : State} (n : Nat) (h : runSteps m s = some t) :
    runSteps (m + n) s = runSteps n t := by
  induction m generalizing s with
  | zero => cases h; rw [Nat.zero_add]
  | succ m ih =>
    cases hs : step s with
    | next u =>
      rw [runSteps_succ m hs] at h
      rw [Nat.succ_add, runSteps_succ _ hs, ih h]
    | fault _ => simp [runSteps, hs] at h
    | refused _ => simp [runSteps, hs] at h

/-! ## The attempts at a phase -/

/-- The frames of one attempt at a phase: the phase's frame, in P_DATA the unit (R129 to R133). -/
def State.attemptFrames (s : State) : List Frame :=
  match s.phase with
  | .pTask => [{ value := s.t.setWidth 32, tag := 12 }]
  | .pQty => [{ value := s.q.setWidth 32, tag := 14 }]
  | .pData => unitFrames s.params.crc (s.msgWord s.idx.toNat)
  | .pTerm => [{ value := 0xE2D, tag := 15 }]
  | .pDone => []
  | .pFail => []

/-- A Sender at the same phase as `s` and with the same message, `n` transmissions made in the phase, that will hear no
validating acknowledgment in the next `k` windows. -/
structure Trying (s : State) (n k : Nat) (u : UStep) (v : State) : Prop where
  host : v.host = []
  role : v.role = .sender
  phase : v.phase = s.phase
  idx : v.idx = s.idx
  ustep : v.ustep = u
  att : v.att.toNat = n
  task : v.t = s.t
  qty : v.q = s.q
  params : v.params = s.params
  words : KeepsWords s v
  unacked : ∀ f ∈ v.answers, neverAcks s.t f
  windows : k * s.window ≤ v.answers.length

section
variable {s v : State} {n k : Nat} {u : UStep}

theorem Trying.window_eq (h : Trying s n k u v) : v.window = s.window := by
  rw [State.window, State.window, h.params]

theorem Trying.window_listed (h : Trying s n (k + 1) u v) : v.window ≤ v.answers.length := by
  rw [h.window_eq]
  exact (Nat.le_mul_of_pos_left _ (Nat.succ_pos k)).trans h.windows

/-- A window uses up the answers of one window at most. -/
theorem Trying.recv (h : Trying s n (k + 1) u v) : Trying s n k u (recv v).2 := by
  obtain ⟨-, used, has, hused⟩ := recv_listed h.window_listed
  have hwindows := h.windows
  rw [h.window_eq] at hused
  rw [has, List.length_append, Nat.succ_mul] at hwindows
  exact
    { host := (recv_host v).trans h.host, role := (recv_role v).trans h.role, phase := (recv_phase v).trans h.phase
      idx := (recv_idx v).trans h.idx, ustep := (recv_ustep v).trans h.ustep
      att := (congrArg BitVec.toNat (recv_att v)).trans h.att, task := (recv_t v).trans h.task
      qty := (recv_q v).trans h.qty, params := (recv_params v).trans h.params
      words := fun i => (keepsWords (recv_msgbuf v) (recv_resets v) i).trans (h.words i)
      unacked := fun f hf => h.unacked f (has ▸ List.mem_append_right used hf), windows := by omega }

/-- What a Sender hears in such a window does not validate (R137). -/
theorem Trying.not_validates (h : Trying s n (k + 1) u v) : ¬Validates v.t (Machine.recv v).1 := by
  rintro ⟨f, hf, htag, hvalue⟩
  obtain ⟨hlisted, -⟩ := recv_listed h.window_listed
  refine h.unacked _ (hlisted f hf) f rfl ⟨htag, ?_⟩
  rw [ackField, lowField_toNat, hvalue, h.task]

/-- A transmission of one frame is the whole transmission of an attempt but P_DATA's. -/
theorem Trying.transmitsFrame (h : Trying s n k .uTx v) (hn : n < 5) {x : Word} {w : Tag}
    (hstep : step v = .next { v with
      trace := v.trace ++ [.tx x w, .wait v.params.tFrame], att := v.att + 1, ustep := .uRx }) :
    ∃ v', runSteps 1 v = some v' ∧ Trying s (n + 1) k .uRx v' ∧ Sends v [⟨x, w⟩] v' := by
  have hatt := h.att
  exact ⟨_, runSteps_succ 0 hstep, { h with ustep := rfl, att := by bv_omega }, ⟨_, rfl, rfl⟩⟩

/-- The transmission of an attempt takes every step of the attempt but the wait (R128, R133). -/
theorem Trying.transmits (h : Trying s n k .uTx v) (ha : activePhase s.phase = true) (hi : s.idx.toNat < 64)
    (hn : n < 5) : ∃ v', runSteps (attemptLength s.phase - 1) v = some v' ∧ Trying s (n + 1) k .uRx v' ∧
      Sends v s.attemptFrames v' := by
  have hq := takeHost_nil h.host
  obtain ⟨htask, hqty, -, hterm⟩ := senderTransmitsThePhasesFrame v v hq h.role h.ustep
  unfold State.attemptFrames
  cases hp : s.phase with
  | pTask => rw [← h.task]; exact h.transmitsFrame hn (htask (h.phase.trans hp))
  | pQty => rw [← h.qty]; exact h.transmitsFrame hn (hqty (h.phase.trans hp))
  | pTerm => exact h.transmitsFrame hn (hterm (h.phase.trans hp))
  | pData =>
    obtain ⟨-, hunit⟩ := senderTransmitsTheChecksum
    obtain ⟨v₁, hdata, hcsum⟩ := hunit v v v hq hq h.role (h.phase.trans hp) h.ustep (by rw [h.idx]; exact hi)
    have hatt := h.att
    rw [← h.params, ← h.words, ← h.idx]
    exact ⟨_, (runSteps_succ 1 hdata).trans (runSteps_succ 0 hcsum), { h with ustep := rfl, att := by bv_omega },
      ⟨_, rfl, rfl⟩⟩
  | pDone => rw [hp] at ha; cases ha
  | pFail => rw [hp] at ha; cases ha

/-- Before the fifth attempt's end the Sender goes back to the start of the phase (R138). -/
theorem Trying.retries (h : Trying s n (k + 1) .uRx v) (ha : activePhase s.phase = true) (hn : n < 5) :
    ∃ v', step v = .next v' ∧ Trying s n k .uTx v' ∧ Sends v [] v' := by
  obtain ⟨-, hretry, -⟩ := senderWaitsAndJudges v v _ _ (takeHost_nil h.host) h.role (by rw [h.phase]; exact ha)
    h.ustep rfl
  obtain ⟨c, -, hstep⟩ := hretry h.not_validates (by rw [h.att]; exact hn)
  exact ⟨_, hstep, { h.recv with ustep := rfl }, (recv_sends v).trans ⟨[.wait _], rfl, rfl⟩⟩

/-- A Sender that has failed in the phase and at the index of `s`. -/
structure GaveUp (s v : State) : Prop where
  host : v.host = []
  role : v.role = .sender
  phase : v.phase = .pFail
  idx : v.idx = s.idx
  cause : v.cause = some .retryExhausted

/-- The fifth failed attempt is the failure of the SEND (R139). -/
theorem Trying.givesUp (h : Trying s 5 (k + 1) .uRx v) (ha : activePhase s.phase = true) :
    ∃ v', step v = .next v' ∧ GaveUp s v' ∧ Sends v [] v' := by
  obtain ⟨-, -, hfail⟩ := senderWaitsAndJudges v v _ _ (takeHost_nil h.host) h.role (by rw [h.phase]; exact ha)
    h.ustep rfl
  exact ⟨_, hfail h.not_validates h.att,
    { host := h.recv.host, role := h.recv.role, phase := rfl, idx := h.recv.idx, cause := rfl }, recv_sends v⟩

/-- An attempt is its transmission, then the wait, which decides how the attempt ends (R125). -/
theorem Trying.attempt {P : State → Prop} (h : Trying s n (k + 1) .uTx v) (ha : activePhase s.phase = true)
    (hi : s.idx.toNat < 64) (hn : n < 5)
    (hwait : ∀ w, Trying s (n + 1) (k + 1) .uRx w → ∃ v', step w = .next v' ∧ P v' ∧ Sends w [] v') :
    ∃ v', runSteps (attemptLength s.phase) v = some v' ∧ P v' ∧ Sends v s.attemptFrames v' := by
  obtain ⟨w, hrun, hw, hsent⟩ := h.transmits ha hi hn
  obtain ⟨v', hstep, hv', hsilent⟩ := hwait w hw
  have hlength : attemptLength s.phase = attemptLength s.phase - 1 + 1 :=
    (Nat.sub_add_cancel (attemptLength_pos s.phase)).symm
  refine ⟨v', ?_, hv', by simpa using hsent.trans hsilent⟩
  rw [hlength, runSteps_add 1 hrun, runSteps_succ 0 hstep, runSteps]

/-- The frames of `n` attempts, then those of one more. -/
theorem flatten_replicate_succ (n : Nat) (fs : List Frame) :
    (List.replicate (n + 1) fs).flatten = (List.replicate n fs).flatten ++ fs := by
  rw [List.replicate_succ', List.flatten_append, List.flatten_singleton]

/-- The first attempts, up to four, that fail. -/
theorem Trying.attempts (h : Trying s 0 (n + k) .uTx s) (ha : activePhase s.phase = true) (hi : s.idx.toNat < 64)
    (hn : n ≤ 4) : ∃ v, runSteps (n * attemptLength s.phase) s = some v ∧ Trying s n k .uTx v ∧
      Sends s (List.replicate n s.attemptFrames).flatten v := by
  induction n generalizing k with
  | zero => exact ⟨s, by rw [Nat.zero_mul, runSteps], by rwa [Nat.zero_add] at h, sends_nothing rfl⟩
  | succ n ih =>
    obtain ⟨v, hrun, hv, hsent⟩ := ih (k := k + 1) (by rwa [Nat.succ_add_eq_add_succ] at h) (by omega)
    obtain ⟨v', hrun', hv', hsent'⟩ := hv.attempt ha hi (by omega) fun w hw => hw.retries ha (by omega)
    refine ⟨v', ?_, hv', ?_⟩
    · rw [Nat.succ_mul, runSteps_add _ hrun, hrun']
    · rw [flatten_replicate_succ]
      exact hsent.trans hsent'

/-- Five attempts that fail end in P_FAIL (R139). -/
theorem Trying.exhausts (h : Trying s 0 5 .uTx s) (ha : activePhase s.phase = true) (hi : s.idx.toNat < 64) :
    ∃ v, runSteps (5 * attemptLength s.phase) s = some v ∧ GaveUp s v ∧
      Sends s (List.replicate 5 s.attemptFrames).flatten v := by
  obtain ⟨v, hrun, hv, hsent⟩ := h.attempts (n := 4) (k := 1) ha hi le_rfl
  obtain ⟨v', hrun', hv', hsent'⟩ := hv.attempt ha hi (by omega) fun w hw => hw.givesUp ha
  refine ⟨v', ?_, hv', ?_⟩
  · rw [Nat.succ_mul 4, runSteps_add _ hrun, hrun']
  · rw [flatten_replicate_succ]
    exact hsent.trans hsent'

end

/-- Settles O59: each of five attempts transmits the frames of the phase and hears nothing that validates; the fifth
fails the SEND, and the completion step reports it. -/
theorem senderGivesUpAfterFiveAttempts : Obligations.SenderGivesUpAfterFiveAttempts := by
  intro s hr ha hu hatt hi hh hunacked hwindows
  have hstart : Trying s 0 5 .uTx s :=
    { host := hh, role := hr, phase := rfl, idx := rfl, ustep := hu, att := by rw [hatt]; rfl, task := rfl, qty := rfl
      params := rfl, words := fun _ => rfl, unacked := hunacked, windows := hwindows }
  obtain ⟨t, hrun, hfailed, hsent⟩ := hstart.exhausts ha hi
  have hlength : 5 * attemptLength s.phase = if s.phase = .pData then 15 else 10 := mul_ite ..
  obtain ⟨-, -, hcomplete⟩ := completionReportsTheResult t t (takeHost_nil hfailed.host)
  exact ⟨t, hlength ▸ hrun, hfailed.phase, hfailed.idx, hfailed.cause, hsent, _,
    hcomplete (by simp [hfailed.role]) hfailed.phase, rfl, rfl, rfl⟩

end Sys2Proof.Machine

/-! SUPPORT. The Receiver (spec/45_receiver.md): its judgement of a frame where it awaits one, its waiting micro-step as a
RECV and that judgement, its acknowledgment; and the obligations about them. -/

namespace Sys2Proof.Machine

/-! ## The judgement of a frame -/

/-- A Receiver takes a frame of the awaited kind whose payload is valid (R153). -/
theorem judge_valid {s : State} {k : Kind} {v : Word} (hr : s.role = .receiver)
    (hk : expected s.role s.phase s.ustep = some k) (hv : payloadValid k v s.t s.crc = true) :
    judge (some (frameOf k v)) s = receiverAccepts k v s := by
  have hs : s.role ≠ .sender := by simp [hr]
  rw [judge_frameOf_same v hk, if_pos hv, if_neg hs]

/-- A frame of the awaited kind whose payload is not valid fails a Receiver's wait (R182). -/
theorem judge_invalid {s : State} {k : Kind} {v : Word} (hr : s.role = .receiver)
    (hk : expected s.role s.phase s.ustep = some k) (hv : payloadValid k v s.t s.crc = false) :
    judge (some (frameOf k v)) s =
      .next { s with ackok := false, ustep := .uTxa, cause := some (payloadCause k) } := by
  rw [judge_frameOf_same v hk, hv, failStep_receiver _ s hr]
  rfl

/-- The three ghost causes of a wait that hears no frame of the awaited kind (R182). -/
def UnheardCause (c : Cause) : Prop := c = .miss ∨ c = .violation ∨ c = .wrongKind

/-- A Receiver that hears nothing, or a frame of no kind or of another kind, fails its wait (R153). -/
theorem judge_unheard {r : Option Frame} {s : State} {k : Kind} (hr : s.role = .receiver)
    (hk : expected s.role s.phase s.ustep = some k) (h : ∀ f, r = some f → f.tag ≠ kindToTag k) :
    ∃ c, UnheardCause c ∧ judge r s = .next { s with ackok := false, ustep := .uTxa, cause := some c } := by
  have hack : k ≠ .ack := expected_receiver s.phase s.ustep k (hr ▸ hk)
  cases r with
  | none => exact ⟨.miss, .inl rfl, judge_silence hr ((awaits_iff s).mpr ⟨k, hk⟩)⟩
  | some f =>
    cases hkind : tagToKind f.tag with
    | none =>
      have hcause : violationCause k = .violation := if_neg hack
      refine ⟨.violation, .inr (.inl rfl), ?_⟩
      rw [judge_fails _ s k _ hk (acceptFrame_unrecognised k s.t s.crc hkind), hcause, failStep_receiver _ s hr]
    | some k' =>
      have hne : k' ≠ k := by
        rintro rfl
        exact h f rfl (kindToTag_of_tagToKind _ _ hkind).symm
      have hcause : wrongKindCause k = .wrongKind := if_neg hack
      refine ⟨.wrongKind, .inr (.inr rfl), ?_⟩
      rw [judge_fails _ s k _ hk (acceptFrame_other s.t s.crc hkind hne), hcause, failStep_receiver _ s hr]

/-! ## What a taken frame writes -/

/-- T takes the low 12 bits of the value (R154). -/
theorem taskField_eq_setWidth (v : Word) : taskField v = v.setWidth 12 :=
  (BitVec.setWidth_eq_extractLsb' (by decide)).symm

/-- Q takes the low 7 bits of the value (R156). -/
theorem qtyLow_eq_setWidth (v : Word) : qtyLow v = v.setWidth 7 :=
  (BitVec.setWidth_eq_extractLsb' (by decide)).symm

/-- The Quantity frame of `n` gives Q the low 7 bits of `n` (R156). -/
theorem qtyLow_setWidth (n : BitVec 14) : qtyLow (n.setWidth 32) = n.setWidth 7 := by
  rw [qtyLow_eq_setWidth, BitVec.setWidth_setWidth_of_le n (by decide)]

/-- A checksum that compares equal stores DW at MSGBUF[IDX] (R160). -/
theorem receiverAccepts_stores {s : State} (v : Word) (hi : s.idx.toNat < 64) :
    receiverAccepts .checksum v s =
      .next { s with msgbuf := memSet s.msgbuf s.idx.toNat s.dw, ackok := true, ustep := .uTxa } :=
  if_pos hi

/-- MSGBUF after a write of one word (R44). -/
theorem msgWord_memSet (s : State) (i : Nat) (v : Word) (j : Nat) :
    ({ s with msgbuf := memSet s.msgbuf i v } : State).msgWord j = if j = i then v else s.msgWord j := by
  change (s.setMsgWord i v).msgWord j = _
  split
  · next hj => rw [hj, msgWord_setMsgWord_same]
  · next hj => exact msgWord_setMsgWord_other s i j v hj

/-! ## Frames as instructions -/

/-- The check of the Quantity frame of `n` (R83). -/
theorem payloadValid_qtyFrame (n : BitVec 14) (x : Task) (c : Crc) :
    payloadValid .quantity (n.setWidth 32) x c = decide (n.toNat ≤ 64) := by
  rw [payloadValid, qtyField_setWidth, qtyLegal, Config.maxQty]

/-- Settles O26: the row awaited in each phase, the Quantity frame by its check. -/
theorem receiverTakesAwaitedFrames : Obligations.ReceiverTakesAwaitedFrames := by
  intro s hr hu
  have awaited {p : Phase} {k : Kind} (hp : s.phase = p) (hw : expected .receiver p .uRx = some k) :
      expected s.role s.phase s.ustep = some k := by rw [hr, hp, hu, hw]
  refine ⟨fun hp x => ?_, fun hp n hn => ?_, fun hp n hn => ?_, fun hp => exec_data_taken hr hp hu, fun hp => ?_⟩
  · rw [(FrameRow.task x).exec_eq_judge, judge_valid hr (awaited hp rfl) rfl, receiverAccepts, taskField_taskValue]
  · have hvalid := (payloadValid_qtyFrame n s.t s.crc).trans (decide_eq_true hn)
    rw [(FrameRow.qty n).exec_eq_judge, judge_valid hr (awaited hp rfl) hvalid, receiverAccepts, qtyLow_setWidth]
  · have hinvalid := (payloadValid_qtyFrame n s.t s.crc).trans (decide_eq_false (Nat.not_le.mpr hn))
    exact ((FrameRow.qty n).exec_eq_judge s).trans (judge_invalid hr (awaited hp rfl) hinvalid)
  · rw [FrameRow.term.exec_eq_judge, judge_valid hr (awaited hp rfl) (by simp [payloadValid]), receiverAccepts]

/-- Settles O27: the comparison with CRC, the store at IDX alone. -/
theorem receiverStoresTheCheckedWord : Obligations.ReceiverStoresTheCheckedWord := by
  intro s c hr hp hu hi
  have hk : expected s.role s.phase s.ustep = some .checksum := by rw [hr, hp, hu]; rfl
  refine ⟨?_, fun hc => ?_⟩
  · rintro rfl
    exact ⟨_, exec_csum_stored hr hp hu hi, msgWord_memSet s _ _⟩
  · have hinvalid : payloadValid .checksum (csumValue c) s.t s.crc = false := by simpa [payloadValid] using hc
    exact ((FrameRow.csum c).exec_eq_judge s).trans (judge_invalid hr hk hinvalid)

/-! ## The wait -/

@[simp] theorem recv_crc (s : State) : (recv s).2.crc = s.crc :=
  recv_keeps State.crc (fun _ _ _ _ _ _ _ => rfl) s

/-- The waiting micro-step of a Receiver that awaits the kind `k`: what its RECV returned is judged in the state the RECV
leaves, which still stands at the wait and holds the same word, checksum and MSGBUF (R153). -/
structure Hears (k : Kind) (s : State) (r : Option Frame) (t : State) : Prop where
  step : step s = judge r t
  role : t.role = .receiver
  awaits : expected t.role t.phase t.ustep = some k
  idx : t.idx = s.idx
  dw : t.dw = s.dw
  crc : t.crc = s.crc
  params : t.params = s.params
  words : ∀ i, t.msgWord i = s.msgWord i

theorem hears_of_recv {s s' t : State} {r : Option Frame} {k : Kind} {p : Phase} {u : UStep}
    (hw : expected .receiver p u = some k) (hq : takeHost s = (.quiet, s')) (hr : s.role = .receiver)
    (hp : s.phase = p) (hu : s.ustep = u) (hrecv : recv s' = (r, t)) : Hears k s r t := by
  obtain rfl := eq_hostTaken hq
  have hk : expected s.role s.phase s.ustep = some k := by rw [hr, hp, hu, hw]
  have hstep := waitingStepIsRecvThenJudgement s _ _ _ hq ((awaits_iff _).mpr ⟨k, hk⟩) hrecv
  obtain ⟨rfl, rfl⟩ := Prod.ext_iff.mp hrecv.symm
  exact {
    step := hstep
    role := (recv_role _).trans hr
    awaits := by rw [recv_role, recv_phase, recv_ustep]; exact hk
    idx := recv_idx _
    dw := recv_dw _
    crc := recv_crc _
    params := recv_params _
    words := msgWord_congr s _ (recv_msgbuf _) (recv_resets _) }

/-- A frame of the awaited tag is judged as the frame of the awaited kind. -/
theorem Hears.eq_judge {k : Kind} {s t : State} {f : Frame} (h : Hears k s (some f) t) (htag : f.tag = kindToTag k) :
    Machine.step s = judge (some (frameOf k f.value)) t := by
  rw [h.step, frameOf, ← htag]

/-- Silence and every other tag fail the wait. -/
theorem Hears.unheard {k : Kind} {s t : State} {r : Option Frame} (h : Hears k s r t)
    (hne : ∀ f, r = some f → f.tag ≠ kindToTag k) : ∃ c, UnheardCause c ∧
      Machine.step s = .next { t with ackok := false, ustep := .uTxa, cause := some c } := by
  rw [h.step]
  exact judge_unheard h.role h.awaits hne

/-- Settles O35: every Task frame is valid. -/
theorem receiverWaitsForTheTask : Obligations.ReceiverWaitsForTheTask := by
  intro s s' s'' r hq hr hp hu hrecv
  have hears : Hears .task s r s'' := hears_of_recv rfl hq hr hp hu hrecv
  refine ⟨?_, hears.unheard⟩
  rintro f rfl htag
  rw [hears.eq_judge htag, judge_valid hears.role hears.awaits rfl, receiverAccepts, taskField_eq_setWidth]

/-- Settles O36: the quantity is compared with 64 before Q takes its low bits. -/
theorem receiverWaitsForTheQuantity : Obligations.ReceiverWaitsForTheQuantity := by
  intro s s' s'' r hq hr hp hu hrecv
  have hears : Hears .quantity s r s'' := hears_of_recv rfl hq hr hp hu hrecv
  refine ⟨?_, ?_, hears.unheard⟩
  · rintro f rfl htag hle
    have hvalid := (payloadValid_quantity f.value s''.t s''.crc).trans (decide_eq_true hle)
    rw [hears.eq_judge htag, judge_valid hears.role hears.awaits hvalid, receiverAccepts, qtyLow_eq_setWidth]
  · rintro f rfl htag hgt
    have hinvalid := (payloadValid_quantity f.value s''.t s''.crc).trans (decide_eq_false (Nat.not_le.mpr hgt))
    exact (hears.eq_judge htag).trans (judge_invalid hears.role hears.awaits hinvalid)

/-- Settles O37: every Data frame is valid, and taking it is no transmission. -/
theorem receiverWaitsForTheWord : Obligations.ReceiverWaitsForTheWord := by
  intro s s' s'' r hq hr hp hu hrecv
  have hears : Hears .data s r s'' := hears_of_recv rfl hq hr hp hu hrecv
  refine ⟨?_, hears.unheard⟩
  rintro f rfl htag
  rw [hears.eq_judge htag, judge_valid hears.role hears.awaits rfl, receiverAccepts, hears.params]

/-- Settles O38: the comparison with the CRC of the word, which the RECV leaves as it was; then the store. -/
theorem receiverWaitsForTheChecksum : Obligations.ReceiverWaitsForTheChecksum := by
  intro s s' s'' r hq hr hp hu hi hrecv
  have hears : Hears .checksum s r s'' := hears_of_recv rfl hq hr hp hu hrecv
  refine ⟨?_, ?_, hears.unheard⟩
  · rintro f rfl htag heq
    have hvalid := (payloadValid_checksum f.value s''.t s''.crc).trans (decide_eq_true (hears.crc ▸ heq))
    refine ⟨memSet s''.msgbuf s.idx.toNat s.dw, ?_, fun i => ?_⟩
    · rw [hears.eq_judge htag, judge_valid hears.role hears.awaits hvalid,
        receiverAccepts_stores _ (hears.idx ▸ hi), hears.idx, hears.dw]
    · rw [msgWord_memSet, hears.words]
  · rintro f rfl htag hne
    have hinvalid := (payloadValid_checksum f.value s''.t s''.crc).trans (decide_eq_false (hears.crc ▸ hne))
    exact (hears.eq_judge htag).trans (judge_invalid hears.role hears.awaits hinvalid)

/-- Settles O39: the sentinel is compared, and a wrong one is BAD_TERMINATOR. -/
theorem receiverWaitsForTheTerminator : Obligations.ReceiverWaitsForTheTerminator := by
  intro s s' s'' r hq hr hp hu hrecv
  have hears : Hears .terminator s r s'' := hears_of_recv rfl hq hr hp hu hrecv
  refine ⟨?_, ?_, hears.unheard⟩
  · rintro f rfl htag heq
    have hvalid := (payloadValid_terminator f.value s''.t s''.crc).trans (decide_eq_true heq)
    rw [hears.eq_judge htag, judge_valid hears.role hears.awaits hvalid, receiverAccepts]
  · rintro f rfl htag hne
    have hinvalid := (payloadValid_terminator f.value s''.t s''.crc).trans (decide_eq_false hne)
    exact (hears.eq_judge htag).trans (judge_invalid hears.role hears.awaits hinvalid)

/-! ## The acknowledgment -/

/-- The positive acknowledgment's status and echo do not overlap, so their union is a sum (R75). -/
theorem ackValue_true_eq_add (e : Task) : ackValue e true = 0x1000 + e.setWidth 32 := by
  apply BitVec.eq_of_toNat_eq
  rw [ackValue, BitVec.toNat_setWidth, encodeAck_toNat, BitVec.toNat_add, BitVec.toNat_setWidth]
  simp

/-- A Receiver's U_TXA in an active phase is its acknowledgment (R166). -/
theorem engineStep_uTxa {s : State} (hr : s.role = .receiver) (ha : activePhase s.phase = true)
    (hu : s.ustep = .uTxa) : engineStep s = sendAckStep s := by
  rw [engineStep_receiver hr ha, receiverStep, hu]

theorem sendAckStep_positive {s : State} (h : s.ackok = true) :
    sendAckStep s = .next { s with
      trace := s.trace ++ [.tx (0x1000 + s.t.setWidth 32) 13, .wait s.params.tFrame]
      phase := (nextPhase s.phase s.idx s.q).1, idx := (nextPhase s.phase s.idx s.q).2
      ustep := .uRx, ackok := false } := by
  rw [sendAckStep, if_pos h, h, ackValue_true_eq_add, xmit_eq_trace]
  rfl

theorem sendAckStep_negative {s : State} (h : s.ackok = false) :
    sendAckStep s = .next { s with
      trace := s.trace ++ [.tx (s.t.setWidth 32) 13, .wait s.params.tFrame], phase := .pFail } := by
  rw [sendAckStep, if_neg (by simp [h]), h, ackValue_false, xmit_eq_trace]
  rfl

/-- Settles O40: the two branches of U_TXA; in P_TASK the invariant says that T is still 0xBAD. -/
theorem receiverAcknowledges : Obligations.ReceiverAcknowledges := by
  intro s s' hq hr ha hu
  obtain rfl := eq_hostTaken hq
  have hstep : step s = sendAckStep s.hostTaken := (step_quiet hq).trans (engineStep_uTxa (s := s.hostTaken) hr ha hu)
  have hnegative (hk : s.ackok = false) := hstep.trans (sendAckStep_negative (s := s.hostTaken) hk)
  refine ⟨fun hk => hstep.trans (sendAckStep_positive (s := s.hostTaken) hk), hnegative, fun hk hp hinv => ?_⟩
  have ht : s.hostTaken.t = Config.badTask := hinv.taskUnknown hr hp (.inr hk)
  rw [hnegative hk, ht]
  rfl

end Sys2Proof.Machine

/-! SUPPORT. Exceptions (spec/60_exceptions.md): a frame at a position that awaits none, and the obligation about it. -/

namespace Sys2Proof.Machine

/-- An engine awaits no frame exactly where no kind is expected (R84). -/
theorem awaits_eq_false_iff (s : State) : s.awaits = false ↔ expected s.role s.phase s.ustep = none := by
  rw [State.awaits, ← expected_isSome, ← Bool.not_eq_true, Option.not_isSome_iff_eq_none]

/-- Settles O31: a frame row is a judgement, and where no kind is expected nothing is judged. -/
theorem unawaitedFramesChangeNothing : Obligations.UnawaitedFramesChangeNothing := by
  intro s i hi hw
  obtain ⟨f, hf⟩ := exec_frame hi
  calc exec i s = judge (some f) s := hf s
    _ = .next s := judge_unawaited _ s ((awaits_eq_false_iff s).mp hw)

end Sys2Proof.Machine

/-! SUPPORT. Reset and the idle engine (spec/70_reset_and_hazards.md R200, R201): what a step does when the reset input
is asserted, and the obligation about it. -/

namespace Sys2Proof.Machine

/-- A listed access is the host's next one, and taking it leaves the rest of the list. -/
theorem takeHost_cons {s : State} {ev : HostEvent} {rest : List HostEvent} (hh : s.host = ev :: rest) :
    takeHost s = (ev, { s with host := rest }) := by
  simp [takeHost, hh]

/-- A step that takes a reset resets the engine, whatever its position (R201). -/
theorem step_reset {s s' : State} (h : takeHost s = (.reset, s')) : step s = .next (resetEngine s') :=
  step_of_event s s' _ h

/-- Under a silent host an idle engine does nothing (R119, R191). -/
theorem step_idle {s s' : State} (hq : takeHost s = (.quiet, s')) (hr : s.role = .idle) : step s = .next s' := by
  obtain rfl := eq_hostTaken hq
  have hrole : s.hostTaken.role = .idle := hr
  exact (step_quiet hq).trans (engineStep_idle hrole)

/-- Settles O43: the idle engine's micro-step; and the reset step, whose state has every register at R32's value by the
definition of `resetEngine`, with only the access itself taken from the host's list. -/
theorem resetAbandonsTheExchange : Obligations.ResetAbandonsTheExchange := by
  refine ⟨fun s s' hq hr => step_idle hq hr, fun s rest hh => ?_⟩
  have hstep : step s = .next (resetEngine { s with host := rest }) := step_reset (takeHost_cons hh)
  rw [hstep, resetEngine, State.reset]

end Sys2Proof.Machine
